-- ==== Sys2Proof/Word.lean ====
section
/-! DEFINITION. The machine's two word types (spec/00_scope.md R8, R12: 8-bit data, 16-bit addresses; a result written
into a word is reduced modulo 2^N, which is BitVec arithmetic). -/

namespace Sys2Proof

/-- `u8` (R12): bus data and every 8-bit register. -/
abbrev Byte := BitVec 8

/-- `u16` (R12): bus addresses and every 16-bit register. -/
abbrev Word := BitVec 16

end Sys2Proof
end

