-- ==== Sys2Proof/Syntax.lean ====
section
/-! DEFINITION. The instructions: one constructor per row of spec/opcode_table.json, first the rows that carry operand
bytes, then the others, each group in the table's order (Lean's compiler numbers a constructor that carries data by its
place, and takes at most 244 of those), with the operand bytes the encoding gives it (R151: n an unsigned byte R157, e a signed byte R158, nn a 16-bit value R159); and
the operand names of R153 to R156. After `Instr` stand the instruction FAMILIES: each maps the operands of one rule of
spec/40_load8.md to 46_system.md to the constructor that has them, so that a statement can speak of a rule whole. -/

namespace Sys2Proof

/-- The 8-bit register field r without its (HL) value (R153). -/
inductive Reg8 where
  | b | c | d | e | h | l | a
  deriving DecidableEq, Repr

/-- The 16-bit register field rr (R154) and AF (R32). -/
inductive Reg16 where
  | bc | de | hl | sp | af
  deriving DecidableEq, Repr

/-- The pairs of LD rr,nn, INC rr, DEC rr and ADD HL,rr (R154). -/
inductive PairSp where
  | bc | de | hl | sp
  deriving DecidableEq, Repr

/-- The pairs of PUSH and POP (R154). -/
inductive PairAf where
  | bc | de | hl | af
  deriving DecidableEq, Repr

/-- The condition field cc (R155). -/
inductive Cond where
  | nz | z | nc | c
  deriving DecidableEq, Repr

/-- The arithmetic-logic operation field (R156). -/
inductive AluOp where
  | add | adc | sub | sbc | and | xor | or | cp
  deriving DecidableEq, Repr

/-- The rotate and shift operation field (R156). -/
inductive ShiftOp where
  | rlc | rrc | rl | rr | sla | sra | swap | srl
  deriving DecidableEq, Repr

/-- One constructor per row of spec/opcode_table.json; each is documented by its row's name and rule. -/
inductive Instr where
  /-- `LD BC,nn` (R231) -/
  | ldBcNn (nn : Word)
  /-- `LD B,n` (R202) -/
  | ldBN (n : Byte)
  /-- `LD (nn),SP` (R232) -/
  | ldMemNnSp (nn : Word)
  /-- `LD C,n` (R202) -/
  | ldCN (n : Byte)
  /-- `LD DE,nn` (R231) -/
  | ldDeNn (nn : Word)
  /-- `LD D,n` (R202) -/
  | ldDN (n : Byte)
  /-- `JR e` (R324) -/
  | jr (e : Byte)
  /-- `LD E,n` (R202) -/
  | ldEN (n : Byte)
  /-- `JR NZ,e` (R325) -/
  | jrNz (e : Byte)
  /-- `LD HL,nn` (R231) -/
  | ldHlNn (nn : Word)
  /-- `LD H,n` (R202) -/
  | ldHN (n : Byte)
  /-- `JR Z,e` (R325) -/
  | jrZ (e : Byte)
  /-- `LD L,n` (R202) -/
  | ldLN (n : Byte)
  /-- `JR NC,e` (R325) -/
  | jrNc (e : Byte)
  /-- `LD SP,nn` (R231) -/
  | ldSpNn (nn : Word)
  /-- `LD (HL),n` (R205) -/
  | ldMemHlN (n : Byte)
  /-- `JR C,e` (R325) -/
  | jrC (e : Byte)
  /-- `LD A,n` (R202) -/
  | ldAN (n : Byte)
  /-- `JP NZ,nn` (R322) -/
  | jpNzNn (nn : Word)
  /-- `JP nn` (R321) -/
  | jpNn (nn : Word)
  /-- `CALL NZ,nn` (R327) -/
  | callNzNn (nn : Word)
  /-- `ADD A,n` (R251) -/
  | addAN (n : Byte)
  /-- `JP Z,nn` (R322) -/
  | jpZNn (nn : Word)
  /-- `CALL Z,nn` (R327) -/
  | callZNn (nn : Word)
  /-- `CALL nn` (R326) -/
  | callNn (nn : Word)
  /-- `ADC A,n` (R252) -/
  | adcAN (n : Byte)
  /-- `JP NC,nn` (R322) -/
  | jpNcNn (nn : Word)
  /-- `CALL NC,nn` (R327) -/
  | callNcNn (nn : Word)
  /-- `SUB n` (R253) -/
  | subN (n : Byte)
  /-- `JP C,nn` (R322) -/
  | jpCNn (nn : Word)
  /-- `CALL C,nn` (R327) -/
  | callCNn (nn : Word)
  /-- `SBC A,n` (R254) -/
  | sbcAN (n : Byte)
  /-- `LDH (n),A` (R213) -/
  | ldhMemNA (n : Byte)
  /-- `AND n` (R255) -/
  | andN (n : Byte)
  /-- `ADD SP,e` (R284) -/
  | addSpE (e : Byte)
  /-- `LD (nn),A` (R211) -/
  | ldMemNnA (nn : Word)
  /-- `XOR n` (R256) -/
  | xorN (n : Byte)
  /-- `LDH A,(n)` (R212) -/
  | ldhAMemN (n : Byte)
  /-- `OR n` (R257) -/
  | orN (n : Byte)
  /-- `LD HL,SP+e` (R237) -/
  | ldHlSpE (e : Byte)
  /-- `LD A,(nn)` (R210) -/
  | ldAMemNn (nn : Word)
  /-- `CP n` (R258) -/
  | cpN (n : Byte)
  /-- `NOP` (R354) -/
  | nop
  /-- `LD (BC),A` (R208) -/
  | ldMemBcA
  /-- `INC BC` (R282) -/
  | incBc
  /-- `INC B` (R259) -/
  | incB
  /-- `DEC B` (R261) -/
  | decB
  /-- `RLCA` (R291) -/
  | rlca
  /-- `ADD HL,BC` (R281) -/
  | addHlBc
  /-- `LD A,(BC)` (R206) -/
  | ldAMemBc
  /-- `DEC BC` (R283) -/
  | decBc
  /-- `INC C` (R259) -/
  | incC
  /-- `DEC C` (R261) -/
  | decC
  /-- `RRCA` (R292) -/
  | rrca
  /-- `STOP` (R359) -/
  | stop
  /-- `LD (DE),A` (R209) -/
  | ldMemDeA
  /-- `INC DE` (R282) -/
  | incDe
  /-- `INC D` (R259) -/
  | incD
  /-- `DEC D` (R261) -/
  | decD
  /-- `RLA` (R293) -/
  | rla
  /-- `ADD HL,DE` (R281) -/
  | addHlDe
  /-- `LD A,(DE)` (R207) -/
  | ldAMemDe
  /-- `DEC DE` (R283) -/
  | decDe
  /-- `INC E` (R259) -/
  | incE
  /-- `DEC E` (R261) -/
  | decE
  /-- `RRA` (R294) -/
  | rra
  /-- `LD (HL+),A` (R218) -/
  | ldMemHlIncA
  /-- `INC HL` (R282) -/
  | incHl
  /-- `INC H` (R259) -/
  | incH
  /-- `DEC H` (R261) -/
  | decH
  /-- `DAA` (R263) -/
  | daa
  /-- `ADD HL,HL` (R281) -/
  | addHlHl
  /-- `LD A,(HL+)` (R216) -/
  | ldAMemHlInc
  /-- `DEC HL` (R283) -/
  | decHl
  /-- `INC L` (R259) -/
  | incL
  /-- `DEC L` (R261) -/
  | decL
  /-- `CPL` (R264) -/
  | cpl
  /-- `LD (HL-),A` (R219) -/
  | ldMemHlDecA
  /-- `INC SP` (R282) -/
  | incSp
  /-- `INC (HL)` (R260) -/
  | incMemHl
  /-- `DEC (HL)` (R262) -/
  | decMemHl
  /-- `SCF` (R265) -/
  | scf
  /-- `ADD HL,SP` (R281) -/
  | addHlSp
  /-- `LD A,(HL-)` (R217) -/
  | ldAMemHlDec
  /-- `DEC SP` (R283) -/
  | decSp
  /-- `INC A` (R259) -/
  | incA
  /-- `DEC A` (R261) -/
  | decA
  /-- `CCF` (R266) -/
  | ccf
  /-- `LD B,B` (R201) -/
  | ldBB
  /-- `LD B,C` (R201) -/
  | ldBC
  /-- `LD B,D` (R201) -/
  | ldBD
  /-- `LD B,E` (R201) -/
  | ldBE
  /-- `LD B,H` (R201) -/
  | ldBH
  /-- `LD B,L` (R201) -/
  | ldBL
  /-- `LD B,(HL)` (R203) -/
  | ldBMemHl
  /-- `LD B,A` (R201) -/
  | ldBA
  /-- `LD C,B` (R201) -/
  | ldCB
  /-- `LD C,C` (R201) -/
  | ldCC
  /-- `LD C,D` (R201) -/
  | ldCD
  /-- `LD C,E` (R201) -/
  | ldCE
  /-- `LD C,H` (R201) -/
  | ldCH
  /-- `LD C,L` (R201) -/
  | ldCL
  /-- `LD C,(HL)` (R203) -/
  | ldCMemHl
  /-- `LD C,A` (R201) -/
  | ldCA
  /-- `LD D,B` (R201) -/
  | ldDB
  /-- `LD D,C` (R201) -/
  | ldDC
  /-- `LD D,D` (R201) -/
  | ldDD
  /-- `LD D,E` (R201) -/
  | ldDE
  /-- `LD D,H` (R201) -/
  | ldDH
  /-- `LD D,L` (R201) -/
  | ldDL
  /-- `LD D,(HL)` (R203) -/
  | ldDMemHl
  /-- `LD D,A` (R201) -/
  | ldDA
  /-- `LD E,B` (R201) -/
  | ldEB
  /-- `LD E,C` (R201) -/
  | ldEC
  /-- `LD E,D` (R201) -/
  | ldED
  /-- `LD E,E` (R201) -/
  | ldEE
  /-- `LD E,H` (R201) -/
  | ldEH
  /-- `LD E,L` (R201) -/
  | ldEL
  /-- `LD E,(HL)` (R203) -/
  | ldEMemHl
  /-- `LD E,A` (R201) -/
  | ldEA
  /-- `LD H,B` (R201) -/
  | ldHB
  /-- `LD H,C` (R201) -/
  | ldHC
  /-- `LD H,D` (R201) -/
  | ldHD
  /-- `LD H,E` (R201) -/
  | ldHE
  /-- `LD H,H` (R201) -/
  | ldHH
  /-- `LD H,L` (R201) -/
  | ldHL
  /-- `LD H,(HL)` (R203) -/
  | ldHMemHl
  /-- `LD H,A` (R201) -/
  | ldHA
  /-- `LD L,B` (R201) -/
  | ldLB
  /-- `LD L,C` (R201) -/
  | ldLC
  /-- `LD L,D` (R201) -/
  | ldLD
  /-- `LD L,E` (R201) -/
  | ldLE
  /-- `LD L,H` (R201) -/
  | ldLH
  /-- `LD L,L` (R201) -/
  | ldLL
  /-- `LD L,(HL)` (R203) -/
  | ldLMemHl
  /-- `LD L,A` (R201) -/
  | ldLA
  /-- `LD (HL),B` (R204) -/
  | ldMemHlB
  /-- `LD (HL),C` (R204) -/
  | ldMemHlC
  /-- `LD (HL),D` (R204) -/
  | ldMemHlD
  /-- `LD (HL),E` (R204) -/
  | ldMemHlE
  /-- `LD (HL),H` (R204) -/
  | ldMemHlH
  /-- `LD (HL),L` (R204) -/
  | ldMemHlL
  /-- `HALT` (R357) -/
  | halt
  /-- `LD (HL),A` (R204) -/
  | ldMemHlA
  /-- `LD A,B` (R201) -/
  | ldAB
  /-- `LD A,C` (R201) -/
  | ldAC
  /-- `LD A,D` (R201) -/
  | ldAD
  /-- `LD A,E` (R201) -/
  | ldAE
  /-- `LD A,H` (R201) -/
  | ldAH
  /-- `LD A,L` (R201) -/
  | ldAL
  /-- `LD A,(HL)` (R203) -/
  | ldAMemHl
  /-- `LD A,A` (R201) -/
  | ldAA
  /-- `ADD A,B` (R251) -/
  | addAB
  /-- `ADD A,C` (R251) -/
  | addAC
  /-- `ADD A,D` (R251) -/
  | addAD
  /-- `ADD A,E` (R251) -/
  | addAE
  /-- `ADD A,H` (R251) -/
  | addAH
  /-- `ADD A,L` (R251) -/
  | addAL
  /-- `ADD A,(HL)` (R251) -/
  | addAMemHl
  /-- `ADD A,A` (R251) -/
  | addAA
  /-- `ADC A,B` (R252) -/
  | adcAB
  /-- `ADC A,C` (R252) -/
  | adcAC
  /-- `ADC A,D` (R252) -/
  | adcAD
  /-- `ADC A,E` (R252) -/
  | adcAE
  /-- `ADC A,H` (R252) -/
  | adcAH
  /-- `ADC A,L` (R252) -/
  | adcAL
  /-- `ADC A,(HL)` (R252) -/
  | adcAMemHl
  /-- `ADC A,A` (R252) -/
  | adcAA
  /-- `SUB B` (R253) -/
  | subB
  /-- `SUB C` (R253) -/
  | subC
  /-- `SUB D` (R253) -/
  | subD
  /-- `SUB E` (R253) -/
  | subE
  /-- `SUB H` (R253) -/
  | subH
  /-- `SUB L` (R253) -/
  | subL
  /-- `SUB (HL)` (R253) -/
  | subMemHl
  /-- `SUB A` (R253) -/
  | subA
  /-- `SBC A,B` (R254) -/
  | sbcAB
  /-- `SBC A,C` (R254) -/
  | sbcAC
  /-- `SBC A,D` (R254) -/
  | sbcAD
  /-- `SBC A,E` (R254) -/
  | sbcAE
  /-- `SBC A,H` (R254) -/
  | sbcAH
  /-- `SBC A,L` (R254) -/
  | sbcAL
  /-- `SBC A,(HL)` (R254) -/
  | sbcAMemHl
  /-- `SBC A,A` (R254) -/
  | sbcAA
  /-- `AND B` (R255) -/
  | andB
  /-- `AND C` (R255) -/
  | andC
  /-- `AND D` (R255) -/
  | andD
  /-- `AND E` (R255) -/
  | andE
  /-- `AND H` (R255) -/
  | andH
  /-- `AND L` (R255) -/
  | andL
  /-- `AND (HL)` (R255) -/
  | andMemHl
  /-- `AND A` (R255) -/
  | andA
  /-- `XOR B` (R256) -/
  | xorB
  /-- `XOR C` (R256) -/
  | xorC
  /-- `XOR D` (R256) -/
  | xorD
  /-- `XOR E` (R256) -/
  | xorE
  /-- `XOR H` (R256) -/
  | xorH
  /-- `XOR L` (R256) -/
  | xorL
  /-- `XOR (HL)` (R256) -/
  | xorMemHl
  /-- `XOR A` (R256) -/
  | xorA
  /-- `OR B` (R257) -/
  | orB
  /-- `OR C` (R257) -/
  | orC
  /-- `OR D` (R257) -/
  | orD
  /-- `OR E` (R257) -/
  | orE
  /-- `OR H` (R257) -/
  | orH
  /-- `OR L` (R257) -/
  | orL
  /-- `OR (HL)` (R257) -/
  | orMemHl
  /-- `OR A` (R257) -/
  | orA
  /-- `CP B` (R258) -/
  | cpB
  /-- `CP C` (R258) -/
  | cpC
  /-- `CP D` (R258) -/
  | cpD
  /-- `CP E` (R258) -/
  | cpE
  /-- `CP H` (R258) -/
  | cpH
  /-- `CP L` (R258) -/
  | cpL
  /-- `CP (HL)` (R258) -/
  | cpMemHl
  /-- `CP A` (R258) -/
  | cpA
  /-- `RET NZ` (R329) -/
  | retNz
  /-- `POP BC` (R235) -/
  | popBc
  /-- `PUSH BC` (R234) -/
  | pushBc
  /-- `RST 00H` (R331) -/
  | rst00
  /-- `RET Z` (R329) -/
  | retZ
  /-- `RET` (R328) -/
  | ret
  /-- `RST 08H` (R331) -/
  | rst08
  /-- `RET NC` (R329) -/
  | retNc
  /-- `POP DE` (R235) -/
  | popDe
  /-- `ILLEGAL_D3` (R358) -/
  | illegalD3
  /-- `PUSH DE` (R234) -/
  | pushDe
  /-- `RST 10H` (R331) -/
  | rst10
  /-- `RET C` (R329) -/
  | retC
  /-- `RETI` (R330) -/
  | reti
  /-- `ILLEGAL_DB` (R358) -/
  | illegalDB
  /-- `ILLEGAL_DD` (R358) -/
  | illegalDD
  /-- `RST 18H` (R331) -/
  | rst18
  /-- `POP HL` (R235) -/
  | popHl
  /-- `LDH (C),A` (R215) -/
  | ldhMemCA
  /-- `ILLEGAL_E3` (R358) -/
  | illegalE3
  /-- `ILLEGAL_E4` (R358) -/
  | illegalE4
  /-- `PUSH HL` (R234) -/
  | pushHl
  /-- `RST 20H` (R331) -/
  | rst20
  /-- `JP HL` (R323) -/
  | jpHl
  /-- `ILLEGAL_EB` (R358) -/
  | illegalEB
  /-- `ILLEGAL_EC` (R358) -/
  | illegalEC
  /-- `ILLEGAL_ED` (R358) -/
  | illegalED
  /-- `RST 28H` (R331) -/
  | rst28
  /-- `POP AF` (R236) -/
  | popAf
  /-- `LDH A,(C)` (R214) -/
  | ldhAMemC
  /-- `DI` (R356) -/
  | di
  /-- `ILLEGAL_F4` (R358) -/
  | illegalF4
  /-- `PUSH AF` (R234) -/
  | pushAf
  /-- `RST 30H` (R331) -/
  | rst30
  /-- `LD SP,HL` (R233) -/
  | ldSpHl
  /-- `EI` (R355) -/
  | ei
  /-- `ILLEGAL_FC` (R358) -/
  | illegalFC
  /-- `ILLEGAL_FD` (R358) -/
  | illegalFD
  /-- `RST 38H` (R331) -/
  | rst38
  /-- `RLC B` (R295) -/
  | rlcB
  /-- `RLC C` (R295) -/
  | rlcC
  /-- `RLC D` (R295) -/
  | rlcD
  /-- `RLC E` (R295) -/
  | rlcE
  /-- `RLC H` (R295) -/
  | rlcH
  /-- `RLC L` (R295) -/
  | rlcL
  /-- `RLC (HL)` (R295) -/
  | rlcMemHl
  /-- `RLC A` (R295) -/
  | rlcA
  /-- `RRC B` (R296) -/
  | rrcB
  /-- `RRC C` (R296) -/
  | rrcC
  /-- `RRC D` (R296) -/
  | rrcD
  /-- `RRC E` (R296) -/
  | rrcE
  /-- `RRC H` (R296) -/
  | rrcH
  /-- `RRC L` (R296) -/
  | rrcL
  /-- `RRC (HL)` (R296) -/
  | rrcMemHl
  /-- `RRC A` (R296) -/
  | rrcA
  /-- `RL B` (R297) -/
  | rlB
  /-- `RL C` (R297) -/
  | rlC
  /-- `RL D` (R297) -/
  | rlD
  /-- `RL E` (R297) -/
  | rlE
  /-- `RL H` (R297) -/
  | rlH
  /-- `RL L` (R297) -/
  | rlL
  /-- `RL (HL)` (R297) -/
  | rlMemHl
  /-- `RL A` (R297) -/
  | rlA
  /-- `RR B` (R298) -/
  | rrB
  /-- `RR C` (R298) -/
  | rrC
  /-- `RR D` (R298) -/
  | rrD
  /-- `RR E` (R298) -/
  | rrE
  /-- `RR H` (R298) -/
  | rrH
  /-- `RR L` (R298) -/
  | rrL
  /-- `RR (HL)` (R298) -/
  | rrMemHl
  /-- `RR A` (R298) -/
  | rrA
  /-- `SLA B` (R299) -/
  | slaB
  /-- `SLA C` (R299) -/
  | slaC
  /-- `SLA D` (R299) -/
  | slaD
  /-- `SLA E` (R299) -/
  | slaE
  /-- `SLA H` (R299) -/
  | slaH
  /-- `SLA L` (R299) -/
  | slaL
  /-- `SLA (HL)` (R299) -/
  | slaMemHl
  /-- `SLA A` (R299) -/
  | slaA
  /-- `SRA B` (R300) -/
  | sraB
  /-- `SRA C` (R300) -/
  | sraC
  /-- `SRA D` (R300) -/
  | sraD
  /-- `SRA E` (R300) -/
  | sraE
  /-- `SRA H` (R300) -/
  | sraH
  /-- `SRA L` (R300) -/
  | sraL
  /-- `SRA (HL)` (R300) -/
  | sraMemHl
  /-- `SRA A` (R300) -/
  | sraA
  /-- `SWAP B` (R301) -/
  | swapB
  /-- `SWAP C` (R301) -/
  | swapC
  /-- `SWAP D` (R301) -/
  | swapD
  /-- `SWAP E` (R301) -/
  | swapE
  /-- `SWAP H` (R301) -/
  | swapH
  /-- `SWAP L` (R301) -/
  | swapL
  /-- `SWAP (HL)` (R301) -/
  | swapMemHl
  /-- `SWAP A` (R301) -/
  | swapA
  /-- `SRL B` (R302) -/
  | srlB
  /-- `SRL C` (R302) -/
  | srlC
  /-- `SRL D` (R302) -/
  | srlD
  /-- `SRL E` (R302) -/
  | srlE
  /-- `SRL H` (R302) -/
  | srlH
  /-- `SRL L` (R302) -/
  | srlL
  /-- `SRL (HL)` (R302) -/
  | srlMemHl
  /-- `SRL A` (R302) -/
  | srlA
  /-- `BIT 0,B` (R303) -/
  | bit0B
  /-- `BIT 0,C` (R303) -/
  | bit0C
  /-- `BIT 0,D` (R303) -/
  | bit0D
  /-- `BIT 0,E` (R303) -/
  | bit0E
  /-- `BIT 0,H` (R303) -/
  | bit0H
  /-- `BIT 0,L` (R303) -/
  | bit0L
  /-- `BIT 0,(HL)` (R303) -/
  | bit0MemHl
  /-- `BIT 0,A` (R303) -/
  | bit0A
  /-- `BIT 1,B` (R303) -/
  | bit1B
  /-- `BIT 1,C` (R303) -/
  | bit1C
  /-- `BIT 1,D` (R303) -/
  | bit1D
  /-- `BIT 1,E` (R303) -/
  | bit1E
  /-- `BIT 1,H` (R303) -/
  | bit1H
  /-- `BIT 1,L` (R303) -/
  | bit1L
  /-- `BIT 1,(HL)` (R303) -/
  | bit1MemHl
  /-- `BIT 1,A` (R303) -/
  | bit1A
  /-- `BIT 2,B` (R303) -/
  | bit2B
  /-- `BIT 2,C` (R303) -/
  | bit2C
  /-- `BIT 2,D` (R303) -/
  | bit2D
  /-- `BIT 2,E` (R303) -/
  | bit2E
  /-- `BIT 2,H` (R303) -/
  | bit2H
  /-- `BIT 2,L` (R303) -/
  | bit2L
  /-- `BIT 2,(HL)` (R303) -/
  | bit2MemHl
  /-- `BIT 2,A` (R303) -/
  | bit2A
  /-- `BIT 3,B` (R303) -/
  | bit3B
  /-- `BIT 3,C` (R303) -/
  | bit3C
  /-- `BIT 3,D` (R303) -/
  | bit3D
  /-- `BIT 3,E` (R303) -/
  | bit3E
  /-- `BIT 3,H` (R303) -/
  | bit3H
  /-- `BIT 3,L` (R303) -/
  | bit3L
  /-- `BIT 3,(HL)` (R303) -/
  | bit3MemHl
  /-- `BIT 3,A` (R303) -/
  | bit3A
  /-- `BIT 4,B` (R303) -/
  | bit4B
  /-- `BIT 4,C` (R303) -/
  | bit4C
  /-- `BIT 4,D` (R303) -/
  | bit4D
  /-- `BIT 4,E` (R303) -/
  | bit4E
  /-- `BIT 4,H` (R303) -/
  | bit4H
  /-- `BIT 4,L` (R303) -/
  | bit4L
  /-- `BIT 4,(HL)` (R303) -/
  | bit4MemHl
  /-- `BIT 4,A` (R303) -/
  | bit4A
  /-- `BIT 5,B` (R303) -/
  | bit5B
  /-- `BIT 5,C` (R303) -/
  | bit5C
  /-- `BIT 5,D` (R303) -/
  | bit5D
  /-- `BIT 5,E` (R303) -/
  | bit5E
  /-- `BIT 5,H` (R303) -/
  | bit5H
  /-- `BIT 5,L` (R303) -/
  | bit5L
  /-- `BIT 5,(HL)` (R303) -/
  | bit5MemHl
  /-- `BIT 5,A` (R303) -/
  | bit5A
  /-- `BIT 6,B` (R303) -/
  | bit6B
  /-- `BIT 6,C` (R303) -/
  | bit6C
  /-- `BIT 6,D` (R303) -/
  | bit6D
  /-- `BIT 6,E` (R303) -/
  | bit6E
  /-- `BIT 6,H` (R303) -/
  | bit6H
  /-- `BIT 6,L` (R303) -/
  | bit6L
  /-- `BIT 6,(HL)` (R303) -/
  | bit6MemHl
  /-- `BIT 6,A` (R303) -/
  | bit6A
  /-- `BIT 7,B` (R303) -/
  | bit7B
  /-- `BIT 7,C` (R303) -/
  | bit7C
  /-- `BIT 7,D` (R303) -/
  | bit7D
  /-- `BIT 7,E` (R303) -/
  | bit7E
  /-- `BIT 7,H` (R303) -/
  | bit7H
  /-- `BIT 7,L` (R303) -/
  | bit7L
  /-- `BIT 7,(HL)` (R303) -/
  | bit7MemHl
  /-- `BIT 7,A` (R303) -/
  | bit7A
  /-- `RES 0,B` (R304) -/
  | res0B
  /-- `RES 0,C` (R304) -/
  | res0C
  /-- `RES 0,D` (R304) -/
  | res0D
  /-- `RES 0,E` (R304) -/
  | res0E
  /-- `RES 0,H` (R304) -/
  | res0H
  /-- `RES 0,L` (R304) -/
  | res0L
  /-- `RES 0,(HL)` (R304) -/
  | res0MemHl
  /-- `RES 0,A` (R304) -/
  | res0A
  /-- `RES 1,B` (R304) -/
  | res1B
  /-- `RES 1,C` (R304) -/
  | res1C
  /-- `RES 1,D` (R304) -/
  | res1D
  /-- `RES 1,E` (R304) -/
  | res1E
  /-- `RES 1,H` (R304) -/
  | res1H
  /-- `RES 1,L` (R304) -/
  | res1L
  /-- `RES 1,(HL)` (R304) -/
  | res1MemHl
  /-- `RES 1,A` (R304) -/
  | res1A
  /-- `RES 2,B` (R304) -/
  | res2B
  /-- `RES 2,C` (R304) -/
  | res2C
  /-- `RES 2,D` (R304) -/
  | res2D
  /-- `RES 2,E` (R304) -/
  | res2E
  /-- `RES 2,H` (R304) -/
  | res2H
  /-- `RES 2,L` (R304) -/
  | res2L
  /-- `RES 2,(HL)` (R304) -/
  | res2MemHl
  /-- `RES 2,A` (R304) -/
  | res2A
  /-- `RES 3,B` (R304) -/
  | res3B
  /-- `RES 3,C` (R304) -/
  | res3C
  /-- `RES 3,D` (R304) -/
  | res3D
  /-- `RES 3,E` (R304) -/
  | res3E
  /-- `RES 3,H` (R304) -/
  | res3H
  /-- `RES 3,L` (R304) -/
  | res3L
  /-- `RES 3,(HL)` (R304) -/
  | res3MemHl
  /-- `RES 3,A` (R304) -/
  | res3A
  /-- `RES 4,B` (R304) -/
  | res4B
  /-- `RES 4,C` (R304) -/
  | res4C
  /-- `RES 4,D` (R304) -/
  | res4D
  /-- `RES 4,E` (R304) -/
  | res4E
  /-- `RES 4,H` (R304) -/
  | res4H
  /-- `RES 4,L` (R304) -/
  | res4L
  /-- `RES 4,(HL)` (R304) -/
  | res4MemHl
  /-- `RES 4,A` (R304) -/
  | res4A
  /-- `RES 5,B` (R304) -/
  | res5B
  /-- `RES 5,C` (R304) -/
  | res5C
  /-- `RES 5,D` (R304) -/
  | res5D
  /-- `RES 5,E` (R304) -/
  | res5E
  /-- `RES 5,H` (R304) -/
  | res5H
  /-- `RES 5,L` (R304) -/
  | res5L
  /-- `RES 5,(HL)` (R304) -/
  | res5MemHl
  /-- `RES 5,A` (R304) -/
  | res5A
  /-- `RES 6,B` (R304) -/
  | res6B
  /-- `RES 6,C` (R304) -/
  | res6C
  /-- `RES 6,D` (R304) -/
  | res6D
  /-- `RES 6,E` (R304) -/
  | res6E
  /-- `RES 6,H` (R304) -/
  | res6H
  /-- `RES 6,L` (R304) -/
  | res6L
  /-- `RES 6,(HL)` (R304) -/
  | res6MemHl
  /-- `RES 6,A` (R304) -/
  | res6A
  /-- `RES 7,B` (R304) -/
  | res7B
  /-- `RES 7,C` (R304) -/
  | res7C
  /-- `RES 7,D` (R304) -/
  | res7D
  /-- `RES 7,E` (R304) -/
  | res7E
  /-- `RES 7,H` (R304) -/
  | res7H
  /-- `RES 7,L` (R304) -/
  | res7L
  /-- `RES 7,(HL)` (R304) -/
  | res7MemHl
  /-- `RES 7,A` (R304) -/
  | res7A
  /-- `SET 0,B` (R305) -/
  | set0B
  /-- `SET 0,C` (R305) -/
  | set0C
  /-- `SET 0,D` (R305) -/
  | set0D
  /-- `SET 0,E` (R305) -/
  | set0E
  /-- `SET 0,H` (R305) -/
  | set0H
  /-- `SET 0,L` (R305) -/
  | set0L
  /-- `SET 0,(HL)` (R305) -/
  | set0MemHl
  /-- `SET 0,A` (R305) -/
  | set0A
  /-- `SET 1,B` (R305) -/
  | set1B
  /-- `SET 1,C` (R305) -/
  | set1C
  /-- `SET 1,D` (R305) -/
  | set1D
  /-- `SET 1,E` (R305) -/
  | set1E
  /-- `SET 1,H` (R305) -/
  | set1H
  /-- `SET 1,L` (R305) -/
  | set1L
  /-- `SET 1,(HL)` (R305) -/
  | set1MemHl
  /-- `SET 1,A` (R305) -/
  | set1A
  /-- `SET 2,B` (R305) -/
  | set2B
  /-- `SET 2,C` (R305) -/
  | set2C
  /-- `SET 2,D` (R305) -/
  | set2D
  /-- `SET 2,E` (R305) -/
  | set2E
  /-- `SET 2,H` (R305) -/
  | set2H
  /-- `SET 2,L` (R305) -/
  | set2L
  /-- `SET 2,(HL)` (R305) -/
  | set2MemHl
  /-- `SET 2,A` (R305) -/
  | set2A
  /-- `SET 3,B` (R305) -/
  | set3B
  /-- `SET 3,C` (R305) -/
  | set3C
  /-- `SET 3,D` (R305) -/
  | set3D
  /-- `SET 3,E` (R305) -/
  | set3E
  /-- `SET 3,H` (R305) -/
  | set3H
  /-- `SET 3,L` (R305) -/
  | set3L
  /-- `SET 3,(HL)` (R305) -/
  | set3MemHl
  /-- `SET 3,A` (R305) -/
  | set3A
  /-- `SET 4,B` (R305) -/
  | set4B
  /-- `SET 4,C` (R305) -/
  | set4C
  /-- `SET 4,D` (R305) -/
  | set4D
  /-- `SET 4,E` (R305) -/
  | set4E
  /-- `SET 4,H` (R305) -/
  | set4H
  /-- `SET 4,L` (R305) -/
  | set4L
  /-- `SET 4,(HL)` (R305) -/
  | set4MemHl
  /-- `SET 4,A` (R305) -/
  | set4A
  /-- `SET 5,B` (R305) -/
  | set5B
  /-- `SET 5,C` (R305) -/
  | set5C
  /-- `SET 5,D` (R305) -/
  | set5D
  /-- `SET 5,E` (R305) -/
  | set5E
  /-- `SET 5,H` (R305) -/
  | set5H
  /-- `SET 5,L` (R305) -/
  | set5L
  /-- `SET 5,(HL)` (R305) -/
  | set5MemHl
  /-- `SET 5,A` (R305) -/
  | set5A
  /-- `SET 6,B` (R305) -/
  | set6B
  /-- `SET 6,C` (R305) -/
  | set6C
  /-- `SET 6,D` (R305) -/
  | set6D
  /-- `SET 6,E` (R305) -/
  | set6E
  /-- `SET 6,H` (R305) -/
  | set6H
  /-- `SET 6,L` (R305) -/
  | set6L
  /-- `SET 6,(HL)` (R305) -/
  | set6MemHl
  /-- `SET 6,A` (R305) -/
  | set6A
  /-- `SET 7,B` (R305) -/
  | set7B
  /-- `SET 7,C` (R305) -/
  | set7C
  /-- `SET 7,D` (R305) -/
  | set7D
  /-- `SET 7,E` (R305) -/
  | set7E
  /-- `SET 7,H` (R305) -/
  | set7H
  /-- `SET 7,L` (R305) -/
  | set7L
  /-- `SET 7,(HL)` (R305) -/
  | set7MemHl
  /-- `SET 7,A` (R305) -/
  | set7A
  deriving DecidableEq, Repr

/-- `LD r,r'` (R201), destination first. -/
def Instr.ldRegReg (dst : Reg8) (src : Reg8) : Instr :=
  match dst, src with
  | .b, .b => .ldBB
  | .b, .c => .ldBC
  | .b, .d => .ldBD
  | .b, .e => .ldBE
  | .b, .h => .ldBH
  | .b, .l => .ldBL
  | .b, .a => .ldBA
  | .c, .b => .ldCB
  | .c, .c => .ldCC
  | .c, .d => .ldCD
  | .c, .e => .ldCE
  | .c, .h => .ldCH
  | .c, .l => .ldCL
  | .c, .a => .ldCA
  | .d, .b => .ldDB
  | .d, .c => .ldDC
  | .d, .d => .ldDD
  | .d, .e => .ldDE
  | .d, .h => .ldDH
  | .d, .l => .ldDL
  | .d, .a => .ldDA
  | .e, .b => .ldEB
  | .e, .c => .ldEC
  | .e, .d => .ldED
  | .e, .e => .ldEE
  | .e, .h => .ldEH
  | .e, .l => .ldEL
  | .e, .a => .ldEA
  | .h, .b => .ldHB
  | .h, .c => .ldHC
  | .h, .d => .ldHD
  | .h, .e => .ldHE
  | .h, .h => .ldHH
  | .h, .l => .ldHL
  | .h, .a => .ldHA
  | .l, .b => .ldLB
  | .l, .c => .ldLC
  | .l, .d => .ldLD
  | .l, .e => .ldLE
  | .l, .h => .ldLH
  | .l, .l => .ldLL
  | .l, .a => .ldLA
  | .a, .b => .ldAB
  | .a, .c => .ldAC
  | .a, .d => .ldAD
  | .a, .e => .ldAE
  | .a, .h => .ldAH
  | .a, .l => .ldAL
  | .a, .a => .ldAA

/-- `LD r,n` (R202). -/
def Instr.ldRegN (dst : Reg8) (n : Byte) : Instr :=
  match dst with
  | .b => .ldBN n
  | .c => .ldCN n
  | .d => .ldDN n
  | .e => .ldEN n
  | .h => .ldHN n
  | .l => .ldLN n
  | .a => .ldAN n

/-- `LD r,(HL)` (R203). -/
def Instr.ldRegMemHl (dst : Reg8) : Instr :=
  match dst with
  | .b => .ldBMemHl
  | .c => .ldCMemHl
  | .d => .ldDMemHl
  | .e => .ldEMemHl
  | .h => .ldHMemHl
  | .l => .ldLMemHl
  | .a => .ldAMemHl

/-- `LD (HL),r` (R204). -/
def Instr.ldMemHlReg (src : Reg8) : Instr :=
  match src with
  | .b => .ldMemHlB
  | .c => .ldMemHlC
  | .d => .ldMemHlD
  | .e => .ldMemHlE
  | .h => .ldMemHlH
  | .l => .ldMemHlL
  | .a => .ldMemHlA

/-- `LD rr,nn` (R231). -/
def Instr.ldPairNn (rr : PairSp) (nn : Word) : Instr :=
  match rr with
  | .bc => .ldBcNn nn
  | .de => .ldDeNn nn
  | .hl => .ldHlNn nn
  | .sp => .ldSpNn nn

/-- `PUSH rr` (R234). -/
def Instr.push (rr : PairAf) : Instr :=
  match rr with
  | .bc => .pushBc
  | .de => .pushDe
  | .hl => .pushHl
  | .af => .pushAf

/-- `POP rr` (R235) and `POP AF` (R236). -/
def Instr.pop (rr : PairAf) : Instr :=
  match rr with
  | .bc => .popBc
  | .de => .popDe
  | .hl => .popHl
  | .af => .popAf

/-- The register forms of R251 to R258. -/
def Instr.aluReg (op : AluOp) (r : Reg8) : Instr :=
  match op, r with
  | .add, .b => .addAB
  | .add, .c => .addAC
  | .add, .d => .addAD
  | .add, .e => .addAE
  | .add, .h => .addAH
  | .add, .l => .addAL
  | .add, .a => .addAA
  | .adc, .b => .adcAB
  | .adc, .c => .adcAC
  | .adc, .d => .adcAD
  | .adc, .e => .adcAE
  | .adc, .h => .adcAH
  | .adc, .l => .adcAL
  | .adc, .a => .adcAA
  | .sub, .b => .subB
  | .sub, .c => .subC
  | .sub, .d => .subD
  | .sub, .e => .subE
  | .sub, .h => .subH
  | .sub, .l => .subL
  | .sub, .a => .subA
  | .sbc, .b => .sbcAB
  | .sbc, .c => .sbcAC
  | .sbc, .d => .sbcAD
  | .sbc, .e => .sbcAE
  | .sbc, .h => .sbcAH
  | .sbc, .l => .sbcAL
  | .sbc, .a => .sbcAA
  | .and, .b => .andB
  | .and, .c => .andC
  | .and, .d => .andD
  | .and, .e => .andE
  | .and, .h => .andH
  | .and, .l => .andL
  | .and, .a => .andA
  | .xor, .b => .xorB
  | .xor, .c => .xorC
  | .xor, .d => .xorD
  | .xor, .e => .xorE
  | .xor, .h => .xorH
  | .xor, .l => .xorL
  | .xor, .a => .xorA
  | .or, .b => .orB
  | .or, .c => .orC
  | .or, .d => .orD
  | .or, .e => .orE
  | .or, .h => .orH
  | .or, .l => .orL
  | .or, .a => .orA
  | .cp, .b => .cpB
  | .cp, .c => .cpC
  | .cp, .d => .cpD
  | .cp, .e => .cpE
  | .cp, .h => .cpH
  | .cp, .l => .cpL
  | .cp, .a => .cpA

/-- The (HL) forms of R251 to R258. -/
def Instr.aluMemHl (op : AluOp) : Instr :=
  match op with
  | .add => .addAMemHl
  | .adc => .adcAMemHl
  | .sub => .subMemHl
  | .sbc => .sbcAMemHl
  | .and => .andMemHl
  | .xor => .xorMemHl
  | .or => .orMemHl
  | .cp => .cpMemHl

/-- The immediate forms of R251 to R258. -/
def Instr.aluN (op : AluOp) (n : Byte) : Instr :=
  match op with
  | .add => .addAN n
  | .adc => .adcAN n
  | .sub => .subN n
  | .sbc => .sbcAN n
  | .and => .andN n
  | .xor => .xorN n
  | .or => .orN n
  | .cp => .cpN n

/-- `INC r` (R259). -/
def Instr.incReg (r : Reg8) : Instr :=
  match r with
  | .b => .incB
  | .c => .incC
  | .d => .incD
  | .e => .incE
  | .h => .incH
  | .l => .incL
  | .a => .incA

/-- `DEC r` (R261). -/
def Instr.decReg (r : Reg8) : Instr :=
  match r with
  | .b => .decB
  | .c => .decC
  | .d => .decD
  | .e => .decE
  | .h => .decH
  | .l => .decL
  | .a => .decA

/-- `ADD HL,rr` (R281). -/
def Instr.addHlPair (rr : PairSp) : Instr :=
  match rr with
  | .bc => .addHlBc
  | .de => .addHlDe
  | .hl => .addHlHl
  | .sp => .addHlSp

/-- `INC rr` (R282). -/
def Instr.incPair (rr : PairSp) : Instr :=
  match rr with
  | .bc => .incBc
  | .de => .incDe
  | .hl => .incHl
  | .sp => .incSp

/-- `DEC rr` (R283). -/
def Instr.decPair (rr : PairSp) : Instr :=
  match rr with
  | .bc => .decBc
  | .de => .decDe
  | .hl => .decHl
  | .sp => .decSp

/-- The register forms of R295 to R302. -/
def Instr.shiftReg (op : ShiftOp) (r : Reg8) : Instr :=
  match op, r with
  | .rlc, .b => .rlcB
  | .rlc, .c => .rlcC
  | .rlc, .d => .rlcD
  | .rlc, .e => .rlcE
  | .rlc, .h => .rlcH
  | .rlc, .l => .rlcL
  | .rlc, .a => .rlcA
  | .rrc, .b => .rrcB
  | .rrc, .c => .rrcC
  | .rrc, .d => .rrcD
  | .rrc, .e => .rrcE
  | .rrc, .h => .rrcH
  | .rrc, .l => .rrcL
  | .rrc, .a => .rrcA
  | .rl, .b => .rlB
  | .rl, .c => .rlC
  | .rl, .d => .rlD
  | .rl, .e => .rlE
  | .rl, .h => .rlH
  | .rl, .l => .rlL
  | .rl, .a => .rlA
  | .rr, .b => .rrB
  | .rr, .c => .rrC
  | .rr, .d => .rrD
  | .rr, .e => .rrE
  | .rr, .h => .rrH
  | .rr, .l => .rrL
  | .rr, .a => .rrA
  | .sla, .b => .slaB
  | .sla, .c => .slaC
  | .sla, .d => .slaD
  | .sla, .e => .slaE
  | .sla, .h => .slaH
  | .sla, .l => .slaL
  | .sla, .a => .slaA
  | .sra, .b => .sraB
  | .sra, .c => .sraC
  | .sra, .d => .sraD
  | .sra, .e => .sraE
  | .sra, .h => .sraH
  | .sra, .l => .sraL
  | .sra, .a => .sraA
  | .swap, .b => .swapB
  | .swap, .c => .swapC
  | .swap, .d => .swapD
  | .swap, .e => .swapE
  | .swap, .h => .swapH
  | .swap, .l => .swapL
  | .swap, .a => .swapA
  | .srl, .b => .srlB
  | .srl, .c => .srlC
  | .srl, .d => .srlD
  | .srl, .e => .srlE
  | .srl, .h => .srlH
  | .srl, .l => .srlL
  | .srl, .a => .srlA

/-- The (HL) forms of R295 to R302. -/
def Instr.shiftMemHl (op : ShiftOp) : Instr :=
  match op with
  | .rlc => .rlcMemHl
  | .rrc => .rrcMemHl
  | .rl => .rlMemHl
  | .rr => .rrMemHl
  | .sla => .slaMemHl
  | .sra => .sraMemHl
  | .swap => .swapMemHl
  | .srl => .srlMemHl

/-- `BIT b,r` (R303). -/
def Instr.bitReg (bit : Fin 8) (r : Reg8) : Instr :=
  match bit, r with
  | 0, .b => .bit0B
  | 0, .c => .bit0C
  | 0, .d => .bit0D
  | 0, .e => .bit0E
  | 0, .h => .bit0H
  | 0, .l => .bit0L
  | 0, .a => .bit0A
  | 1, .b => .bit1B
  | 1, .c => .bit1C
  | 1, .d => .bit1D
  | 1, .e => .bit1E
  | 1, .h => .bit1H
  | 1, .l => .bit1L
  | 1, .a => .bit1A
  | 2, .b => .bit2B
  | 2, .c => .bit2C
  | 2, .d => .bit2D
  | 2, .e => .bit2E
  | 2, .h => .bit2H
  | 2, .l => .bit2L
  | 2, .a => .bit2A
  | 3, .b => .bit3B
  | 3, .c => .bit3C
  | 3, .d => .bit3D
  | 3, .e => .bit3E
  | 3, .h => .bit3H
  | 3, .l => .bit3L
  | 3, .a => .bit3A
  | 4, .b => .bit4B
  | 4, .c => .bit4C
  | 4, .d => .bit4D
  | 4, .e => .bit4E
  | 4, .h => .bit4H
  | 4, .l => .bit4L
  | 4, .a => .bit4A
  | 5, .b => .bit5B
  | 5, .c => .bit5C
  | 5, .d => .bit5D
  | 5, .e => .bit5E
  | 5, .h => .bit5H
  | 5, .l => .bit5L
  | 5, .a => .bit5A
  | 6, .b => .bit6B
  | 6, .c => .bit6C
  | 6, .d => .bit6D
  | 6, .e => .bit6E
  | 6, .h => .bit6H
  | 6, .l => .bit6L
  | 6, .a => .bit6A
  | 7, .b => .bit7B
  | 7, .c => .bit7C
  | 7, .d => .bit7D
  | 7, .e => .bit7E
  | 7, .h => .bit7H
  | 7, .l => .bit7L
  | 7, .a => .bit7A

/-- `BIT b,(HL)` (R303). -/
def Instr.bitMemHl (bit : Fin 8) : Instr :=
  match bit with
  | 0 => .bit0MemHl
  | 1 => .bit1MemHl
  | 2 => .bit2MemHl
  | 3 => .bit3MemHl
  | 4 => .bit4MemHl
  | 5 => .bit5MemHl
  | 6 => .bit6MemHl
  | 7 => .bit7MemHl

/-- `RES b,r` (R304). -/
def Instr.resReg (bit : Fin 8) (r : Reg8) : Instr :=
  match bit, r with
  | 0, .b => .res0B
  | 0, .c => .res0C
  | 0, .d => .res0D
  | 0, .e => .res0E
  | 0, .h => .res0H
  | 0, .l => .res0L
  | 0, .a => .res0A
  | 1, .b => .res1B
  | 1, .c => .res1C
  | 1, .d => .res1D
  | 1, .e => .res1E
  | 1, .h => .res1H
  | 1, .l => .res1L
  | 1, .a => .res1A
  | 2, .b => .res2B
  | 2, .c => .res2C
  | 2, .d => .res2D
  | 2, .e => .res2E
  | 2, .h => .res2H
  | 2, .l => .res2L
  | 2, .a => .res2A
  | 3, .b => .res3B
  | 3, .c => .res3C
  | 3, .d => .res3D
  | 3, .e => .res3E
  | 3, .h => .res3H
  | 3, .l => .res3L
  | 3, .a => .res3A
  | 4, .b => .res4B
  | 4, .c => .res4C
  | 4, .d => .res4D
  | 4, .e => .res4E
  | 4, .h => .res4H
  | 4, .l => .res4L
  | 4, .a => .res4A
  | 5, .b => .res5B
  | 5, .c => .res5C
  | 5, .d => .res5D
  | 5, .e => .res5E
  | 5, .h => .res5H
  | 5, .l => .res5L
  | 5, .a => .res5A
  | 6, .b => .res6B
  | 6, .c => .res6C
  | 6, .d => .res6D
  | 6, .e => .res6E
  | 6, .h => .res6H
  | 6, .l => .res6L
  | 6, .a => .res6A
  | 7, .b => .res7B
  | 7, .c => .res7C
  | 7, .d => .res7D
  | 7, .e => .res7E
  | 7, .h => .res7H
  | 7, .l => .res7L
  | 7, .a => .res7A

/-- `RES b,(HL)` (R304). -/
def Instr.resMemHl (bit : Fin 8) : Instr :=
  match bit with
  | 0 => .res0MemHl
  | 1 => .res1MemHl
  | 2 => .res2MemHl
  | 3 => .res3MemHl
  | 4 => .res4MemHl
  | 5 => .res5MemHl
  | 6 => .res6MemHl
  | 7 => .res7MemHl

/-- `SET b,r` (R305). -/
def Instr.setReg (bit : Fin 8) (r : Reg8) : Instr :=
  match bit, r with
  | 0, .b => .set0B
  | 0, .c => .set0C
  | 0, .d => .set0D
  | 0, .e => .set0E
  | 0, .h => .set0H
  | 0, .l => .set0L
  | 0, .a => .set0A
  | 1, .b => .set1B
  | 1, .c => .set1C
  | 1, .d => .set1D
  | 1, .e => .set1E
  | 1, .h => .set1H
  | 1, .l => .set1L
  | 1, .a => .set1A
  | 2, .b => .set2B
  | 2, .c => .set2C
  | 2, .d => .set2D
  | 2, .e => .set2E
  | 2, .h => .set2H
  | 2, .l => .set2L
  | 2, .a => .set2A
  | 3, .b => .set3B
  | 3, .c => .set3C
  | 3, .d => .set3D
  | 3, .e => .set3E
  | 3, .h => .set3H
  | 3, .l => .set3L
  | 3, .a => .set3A
  | 4, .b => .set4B
  | 4, .c => .set4C
  | 4, .d => .set4D
  | 4, .e => .set4E
  | 4, .h => .set4H
  | 4, .l => .set4L
  | 4, .a => .set4A
  | 5, .b => .set5B
  | 5, .c => .set5C
  | 5, .d => .set5D
  | 5, .e => .set5E
  | 5, .h => .set5H
  | 5, .l => .set5L
  | 5, .a => .set5A
  | 6, .b => .set6B
  | 6, .c => .set6C
  | 6, .d => .set6D
  | 6, .e => .set6E
  | 6, .h => .set6H
  | 6, .l => .set6L
  | 6, .a => .set6A
  | 7, .b => .set7B
  | 7, .c => .set7C
  | 7, .d => .set7D
  | 7, .e => .set7E
  | 7, .h => .set7H
  | 7, .l => .set7L
  | 7, .a => .set7A

/-- `SET b,(HL)` (R305). -/
def Instr.setMemHl (bit : Fin 8) : Instr :=
  match bit with
  | 0 => .set0MemHl
  | 1 => .set1MemHl
  | 2 => .set2MemHl
  | 3 => .set3MemHl
  | 4 => .set4MemHl
  | 5 => .set5MemHl
  | 6 => .set6MemHl
  | 7 => .set7MemHl

/-- `JP cc,nn` (R322). -/
def Instr.jpCond (cc : Cond) (nn : Word) : Instr :=
  match cc with
  | .nz => .jpNzNn nn
  | .z => .jpZNn nn
  | .nc => .jpNcNn nn
  | .c => .jpCNn nn

/-- `JR cc,e` (R325). -/
def Instr.jrCond (cc : Cond) (e : Byte) : Instr :=
  match cc with
  | .nz => .jrNz e
  | .z => .jrZ e
  | .nc => .jrNc e
  | .c => .jrC e

/-- `CALL cc,nn` (R327). -/
def Instr.callCond (cc : Cond) (nn : Word) : Instr :=
  match cc with
  | .nz => .callNzNn nn
  | .z => .callZNn nn
  | .nc => .callNcNn nn
  | .c => .callCNn nn

/-- `RET cc` (R329). -/
def Instr.retCond (cc : Cond) : Instr :=
  match cc with
  | .nz => .retNz
  | .z => .retZ
  | .nc => .retNc
  | .c => .retC

/-- `RST t` (R331), t = 8 * y. -/
def Instr.rst (y : Fin 8) : Instr :=
  match y with
  | 0 => .rst00
  | 1 => .rst08
  | 2 => .rst10
  | 3 => .rst18
  | 4 => .rst20
  | 5 => .rst28
  | 6 => .rst30
  | 7 => .rst38

/-- The eleven illegal opcodes (R163, R358), in the order of R163. -/
def Instr.illegal (k : Fin 11) : Instr :=
  match k with
  | 0 => .illegalD3
  | 1 => .illegalDB
  | 2 => .illegalDD
  | 3 => .illegalE3
  | 4 => .illegalE4
  | 5 => .illegalEB
  | 6 => .illegalEC
  | 7 => .illegalED
  | 8 => .illegalF4
  | 9 => .illegalFC
  | 10 => .illegalFD

/-- The lengths of one row of the opcode map of R161 (its high nibble): 1, 2 or 3 bytes (R151). -/
def opcodeLengthRow (hi : Nat) : List Nat :=
  match hi with
  | 0x0 => [1, 3, 1, 1, 1, 1, 2, 1, 3, 1, 1, 1, 1, 1, 2, 1]
  | 0x1 => [2, 3, 1, 1, 1, 1, 2, 1, 2, 1, 1, 1, 1, 1, 2, 1]
  | 0x2 => [2, 3, 1, 1, 1, 1, 2, 1, 2, 1, 1, 1, 1, 1, 2, 1]
  | 0x3 => [2, 3, 1, 1, 1, 1, 2, 1, 2, 1, 1, 1, 1, 1, 2, 1]
  | 0x4 => [1, 1, 1, 1, 1, 1, 1, 1, 1, 1, 1, 1, 1, 1, 1, 1]
  | 0x5 => [1, 1, 1, 1, 1, 1, 1, 1, 1, 1, 1, 1, 1, 1, 1, 1]
  | 0x6 => [1, 1, 1, 1, 1, 1, 1, 1, 1, 1, 1, 1, 1, 1, 1, 1]
  | 0x7 => [1, 1, 1, 1, 1, 1, 1, 1, 1, 1, 1, 1, 1, 1, 1, 1]
  | 0x8 => [1, 1, 1, 1, 1, 1, 1, 1, 1, 1, 1, 1, 1, 1, 1, 1]
  | 0x9 => [1, 1, 1, 1, 1, 1, 1, 1, 1, 1, 1, 1, 1, 1, 1, 1]
  | 0xA => [1, 1, 1, 1, 1, 1, 1, 1, 1, 1, 1, 1, 1, 1, 1, 1]
  | 0xB => [1, 1, 1, 1, 1, 1, 1, 1, 1, 1, 1, 1, 1, 1, 1, 1]
  | 0xC => [1, 1, 3, 3, 3, 1, 2, 1, 1, 1, 3, 2, 3, 3, 2, 1]
  | 0xD => [1, 1, 3, 1, 3, 1, 2, 1, 1, 1, 3, 1, 3, 1, 2, 1]
  | 0xE => [2, 1, 1, 1, 1, 1, 2, 1, 2, 1, 3, 1, 1, 1, 2, 1]
  | _ => [2, 1, 1, 1, 1, 1, 2, 1, 2, 1, 3, 1, 1, 1, 2, 1]

/-- The length in bytes of an instruction whose first byte is `op` (R151, R161), row by row of the opcode map. -/
def opcodeLength (op : Byte) : Nat :=
  ((opcodeLengthRow (op.toNat / 16))[op.toNat % 16]?).getD 1

/-- The first byte of an instruction (R161); every CB instruction begins with 0xCB (R162). -/
def Instr.firstByte (i : Instr) : Byte :=
  match i with
  | .nop => 0x00
  | .ldBcNn _ => 0x01
  | .ldMemBcA => 0x02
  | .incBc => 0x03
  | .incB => 0x04
  | .decB => 0x05
  | .ldBN _ => 0x06
  | .rlca => 0x07
  | .ldMemNnSp _ => 0x08
  | .addHlBc => 0x09
  | .ldAMemBc => 0x0A
  | .decBc => 0x0B
  | .incC => 0x0C
  | .decC => 0x0D
  | .ldCN _ => 0x0E
  | .rrca => 0x0F
  | .stop => 0x10
  | .ldDeNn _ => 0x11
  | .ldMemDeA => 0x12
  | .incDe => 0x13
  | .incD => 0x14
  | .decD => 0x15
  | .ldDN _ => 0x16
  | .rla => 0x17
  | .jr _ => 0x18
  | .addHlDe => 0x19
  | .ldAMemDe => 0x1A
  | .decDe => 0x1B
  | .incE => 0x1C
  | .decE => 0x1D
  | .ldEN _ => 0x1E
  | .rra => 0x1F
  | .jrNz _ => 0x20
  | .ldHlNn _ => 0x21
  | .ldMemHlIncA => 0x22
  | .incHl => 0x23
  | .incH => 0x24
  | .decH => 0x25
  | .ldHN _ => 0x26
  | .daa => 0x27
  | .jrZ _ => 0x28
  | .addHlHl => 0x29
  | .ldAMemHlInc => 0x2A
  | .decHl => 0x2B
  | .incL => 0x2C
  | .decL => 0x2D
  | .ldLN _ => 0x2E
  | .cpl => 0x2F
  | .jrNc _ => 0x30
  | .ldSpNn _ => 0x31
  | .ldMemHlDecA => 0x32
  | .incSp => 0x33
  | .incMemHl => 0x34
  | .decMemHl => 0x35
  | .ldMemHlN _ => 0x36
  | .scf => 0x37
  | .jrC _ => 0x38
  | .addHlSp => 0x39
  | .ldAMemHlDec => 0x3A
  | .decSp => 0x3B
  | .incA => 0x3C
  | .decA => 0x3D
  | .ldAN _ => 0x3E
  | .ccf => 0x3F
  | .ldBB => 0x40
  | .ldBC => 0x41
  | .ldBD => 0x42
  | .ldBE => 0x43
  | .ldBH => 0x44
  | .ldBL => 0x45
  | .ldBMemHl => 0x46
  | .ldBA => 0x47
  | .ldCB => 0x48
  | .ldCC => 0x49
  | .ldCD => 0x4A
  | .ldCE => 0x4B
  | .ldCH => 0x4C
  | .ldCL => 0x4D
  | .ldCMemHl => 0x4E
  | .ldCA => 0x4F
  | .ldDB => 0x50
  | .ldDC => 0x51
  | .ldDD => 0x52
  | .ldDE => 0x53
  | .ldDH => 0x54
  | .ldDL => 0x55
  | .ldDMemHl => 0x56
  | .ldDA => 0x57
  | .ldEB => 0x58
  | .ldEC => 0x59
  | .ldED => 0x5A
  | .ldEE => 0x5B
  | .ldEH => 0x5C
  | .ldEL => 0x5D
  | .ldEMemHl => 0x5E
  | .ldEA => 0x5F
  | .ldHB => 0x60
  | .ldHC => 0x61
  | .ldHD => 0x62
  | .ldHE => 0x63
  | .ldHH => 0x64
  | .ldHL => 0x65
  | .ldHMemHl => 0x66
  | .ldHA => 0x67
  | .ldLB => 0x68
  | .ldLC => 0x69
  | .ldLD => 0x6A
  | .ldLE => 0x6B
  | .ldLH => 0x6C
  | .ldLL => 0x6D
  | .ldLMemHl => 0x6E
  | .ldLA => 0x6F
  | .ldMemHlB => 0x70
  | .ldMemHlC => 0x71
  | .ldMemHlD => 0x72
  | .ldMemHlE => 0x73
  | .ldMemHlH => 0x74
  | .ldMemHlL => 0x75
  | .halt => 0x76
  | .ldMemHlA => 0x77
  | .ldAB => 0x78
  | .ldAC => 0x79
  | .ldAD => 0x7A
  | .ldAE => 0x7B
  | .ldAH => 0x7C
  | .ldAL => 0x7D
  | .ldAMemHl => 0x7E
  | .ldAA => 0x7F
  | .addAB => 0x80
  | .addAC => 0x81
  | .addAD => 0x82
  | .addAE => 0x83
  | .addAH => 0x84
  | .addAL => 0x85
  | .addAMemHl => 0x86
  | .addAA => 0x87
  | .adcAB => 0x88
  | .adcAC => 0x89
  | .adcAD => 0x8A
  | .adcAE => 0x8B
  | .adcAH => 0x8C
  | .adcAL => 0x8D
  | .adcAMemHl => 0x8E
  | .adcAA => 0x8F
  | .subB => 0x90
  | .subC => 0x91
  | .subD => 0x92
  | .subE => 0x93
  | .subH => 0x94
  | .subL => 0x95
  | .subMemHl => 0x96
  | .subA => 0x97
  | .sbcAB => 0x98
  | .sbcAC => 0x99
  | .sbcAD => 0x9A
  | .sbcAE => 0x9B
  | .sbcAH => 0x9C
  | .sbcAL => 0x9D
  | .sbcAMemHl => 0x9E
  | .sbcAA => 0x9F
  | .andB => 0xA0
  | .andC => 0xA1
  | .andD => 0xA2
  | .andE => 0xA3
  | .andH => 0xA4
  | .andL => 0xA5
  | .andMemHl => 0xA6
  | .andA => 0xA7
  | .xorB => 0xA8
  | .xorC => 0xA9
  | .xorD => 0xAA
  | .xorE => 0xAB
  | .xorH => 0xAC
  | .xorL => 0xAD
  | .xorMemHl => 0xAE
  | .xorA => 0xAF
  | .orB => 0xB0
  | .orC => 0xB1
  | .orD => 0xB2
  | .orE => 0xB3
  | .orH => 0xB4
  | .orL => 0xB5
  | .orMemHl => 0xB6
  | .orA => 0xB7
  | .cpB => 0xB8
  | .cpC => 0xB9
  | .cpD => 0xBA
  | .cpE => 0xBB
  | .cpH => 0xBC
  | .cpL => 0xBD
  | .cpMemHl => 0xBE
  | .cpA => 0xBF
  | .retNz => 0xC0
  | .popBc => 0xC1
  | .jpNzNn _ => 0xC2
  | .jpNn _ => 0xC3
  | .callNzNn _ => 0xC4
  | .pushBc => 0xC5
  | .addAN _ => 0xC6
  | .rst00 => 0xC7
  | .retZ => 0xC8
  | .ret => 0xC9
  | .jpZNn _ => 0xCA
  | .callZNn _ => 0xCC
  | .callNn _ => 0xCD
  | .adcAN _ => 0xCE
  | .rst08 => 0xCF
  | .retNc => 0xD0
  | .popDe => 0xD1
  | .jpNcNn _ => 0xD2
  | .illegalD3 => 0xD3
  | .callNcNn _ => 0xD4
  | .pushDe => 0xD5
  | .subN _ => 0xD6
  | .rst10 => 0xD7
  | .retC => 0xD8
  | .reti => 0xD9
  | .jpCNn _ => 0xDA
  | .illegalDB => 0xDB
  | .callCNn _ => 0xDC
  | .illegalDD => 0xDD
  | .sbcAN _ => 0xDE
  | .rst18 => 0xDF
  | .ldhMemNA _ => 0xE0
  | .popHl => 0xE1
  | .ldhMemCA => 0xE2
  | .illegalE3 => 0xE3
  | .illegalE4 => 0xE4
  | .pushHl => 0xE5
  | .andN _ => 0xE6
  | .rst20 => 0xE7
  | .addSpE _ => 0xE8
  | .jpHl => 0xE9
  | .ldMemNnA _ => 0xEA
  | .illegalEB => 0xEB
  | .illegalEC => 0xEC
  | .illegalED => 0xED
  | .xorN _ => 0xEE
  | .rst28 => 0xEF
  | .ldhAMemN _ => 0xF0
  | .popAf => 0xF1
  | .ldhAMemC => 0xF2
  | .di => 0xF3
  | .illegalF4 => 0xF4
  | .pushAf => 0xF5
  | .orN _ => 0xF6
  | .rst30 => 0xF7
  | .ldHlSpE _ => 0xF8
  | .ldSpHl => 0xF9
  | .ldAMemNn _ => 0xFA
  | .ei => 0xFB
  | .illegalFC => 0xFC
  | .illegalFD => 0xFD
  | .cpN _ => 0xFE
  | .rst38 => 0xFF
  | .rlcB => 0xCB
  | .rlcC => 0xCB
  | .rlcD => 0xCB
  | .rlcE => 0xCB
  | .rlcH => 0xCB
  | .rlcL => 0xCB
  | .rlcMemHl => 0xCB
  | .rlcA => 0xCB
  | .rrcB => 0xCB
  | .rrcC => 0xCB
  | .rrcD => 0xCB
  | .rrcE => 0xCB
  | .rrcH => 0xCB
  | .rrcL => 0xCB
  | .rrcMemHl => 0xCB
  | .rrcA => 0xCB
  | .rlB => 0xCB
  | .rlC => 0xCB
  | .rlD => 0xCB
  | .rlE => 0xCB
  | .rlH => 0xCB
  | .rlL => 0xCB
  | .rlMemHl => 0xCB
  | .rlA => 0xCB
  | .rrB => 0xCB
  | .rrC => 0xCB
  | .rrD => 0xCB
  | .rrE => 0xCB
  | .rrH => 0xCB
  | .rrL => 0xCB
  | .rrMemHl => 0xCB
  | .rrA => 0xCB
  | .slaB => 0xCB
  | .slaC => 0xCB
  | .slaD => 0xCB
  | .slaE => 0xCB
  | .slaH => 0xCB
  | .slaL => 0xCB
  | .slaMemHl => 0xCB
  | .slaA => 0xCB
  | .sraB => 0xCB
  | .sraC => 0xCB
  | .sraD => 0xCB
  | .sraE => 0xCB
  | .sraH => 0xCB
  | .sraL => 0xCB
  | .sraMemHl => 0xCB
  | .sraA => 0xCB
  | .swapB => 0xCB
  | .swapC => 0xCB
  | .swapD => 0xCB
  | .swapE => 0xCB
  | .swapH => 0xCB
  | .swapL => 0xCB
  | .swapMemHl => 0xCB
  | .swapA => 0xCB
  | .srlB => 0xCB
  | .srlC => 0xCB
  | .srlD => 0xCB
  | .srlE => 0xCB
  | .srlH => 0xCB
  | .srlL => 0xCB
  | .srlMemHl => 0xCB
  | .srlA => 0xCB
  | .bit0B => 0xCB
  | .bit0C => 0xCB
  | .bit0D => 0xCB
  | .bit0E => 0xCB
  | .bit0H => 0xCB
  | .bit0L => 0xCB
  | .bit0MemHl => 0xCB
  | .bit0A => 0xCB
  | .bit1B => 0xCB
  | .bit1C => 0xCB
  | .bit1D => 0xCB
  | .bit1E => 0xCB
  | .bit1H => 0xCB
  | .bit1L => 0xCB
  | .bit1MemHl => 0xCB
  | .bit1A => 0xCB
  | .bit2B => 0xCB
  | .bit2C => 0xCB
  | .bit2D => 0xCB
  | .bit2E => 0xCB
  | .bit2H => 0xCB
  | .bit2L => 0xCB
  | .bit2MemHl => 0xCB
  | .bit2A => 0xCB
  | .bit3B => 0xCB
  | .bit3C => 0xCB
  | .bit3D => 0xCB
  | .bit3E => 0xCB
  | .bit3H => 0xCB
  | .bit3L => 0xCB
  | .bit3MemHl => 0xCB
  | .bit3A => 0xCB
  | .bit4B => 0xCB
  | .bit4C => 0xCB
  | .bit4D => 0xCB
  | .bit4E => 0xCB
  | .bit4H => 0xCB
  | .bit4L => 0xCB
  | .bit4MemHl => 0xCB
  | .bit4A => 0xCB
  | .bit5B => 0xCB
  | .bit5C => 0xCB
  | .bit5D => 0xCB
  | .bit5E => 0xCB
  | .bit5H => 0xCB
  | .bit5L => 0xCB
  | .bit5MemHl => 0xCB
  | .bit5A => 0xCB
  | .bit6B => 0xCB
  | .bit6C => 0xCB
  | .bit6D => 0xCB
  | .bit6E => 0xCB
  | .bit6H => 0xCB
  | .bit6L => 0xCB
  | .bit6MemHl => 0xCB
  | .bit6A => 0xCB
  | .bit7B => 0xCB
  | .bit7C => 0xCB
  | .bit7D => 0xCB
  | .bit7E => 0xCB
  | .bit7H => 0xCB
  | .bit7L => 0xCB
  | .bit7MemHl => 0xCB
  | .bit7A => 0xCB
  | .res0B => 0xCB
  | .res0C => 0xCB
  | .res0D => 0xCB
  | .res0E => 0xCB
  | .res0H => 0xCB
  | .res0L => 0xCB
  | .res0MemHl => 0xCB
  | .res0A => 0xCB
  | .res1B => 0xCB
  | .res1C => 0xCB
  | .res1D => 0xCB
  | .res1E => 0xCB
  | .res1H => 0xCB
  | .res1L => 0xCB
  | .res1MemHl => 0xCB
  | .res1A => 0xCB
  | .res2B => 0xCB
  | .res2C => 0xCB
  | .res2D => 0xCB
  | .res2E => 0xCB
  | .res2H => 0xCB
  | .res2L => 0xCB
  | .res2MemHl => 0xCB
  | .res2A => 0xCB
  | .res3B => 0xCB
  | .res3C => 0xCB
  | .res3D => 0xCB
  | .res3E => 0xCB
  | .res3H => 0xCB
  | .res3L => 0xCB
  | .res3MemHl => 0xCB
  | .res3A => 0xCB
  | .res4B => 0xCB
  | .res4C => 0xCB
  | .res4D => 0xCB
  | .res4E => 0xCB
  | .res4H => 0xCB
  | .res4L => 0xCB
  | .res4MemHl => 0xCB
  | .res4A => 0xCB
  | .res5B => 0xCB
  | .res5C => 0xCB
  | .res5D => 0xCB
  | .res5E => 0xCB
  | .res5H => 0xCB
  | .res5L => 0xCB
  | .res5MemHl => 0xCB
  | .res5A => 0xCB
  | .res6B => 0xCB
  | .res6C => 0xCB
  | .res6D => 0xCB
  | .res6E => 0xCB
  | .res6H => 0xCB
  | .res6L => 0xCB
  | .res6MemHl => 0xCB
  | .res6A => 0xCB
  | .res7B => 0xCB
  | .res7C => 0xCB
  | .res7D => 0xCB
  | .res7E => 0xCB
  | .res7H => 0xCB
  | .res7L => 0xCB
  | .res7MemHl => 0xCB
  | .res7A => 0xCB
  | .set0B => 0xCB
  | .set0C => 0xCB
  | .set0D => 0xCB
  | .set0E => 0xCB
  | .set0H => 0xCB
  | .set0L => 0xCB
  | .set0MemHl => 0xCB
  | .set0A => 0xCB
  | .set1B => 0xCB
  | .set1C => 0xCB
  | .set1D => 0xCB
  | .set1E => 0xCB
  | .set1H => 0xCB
  | .set1L => 0xCB
  | .set1MemHl => 0xCB
  | .set1A => 0xCB
  | .set2B => 0xCB
  | .set2C => 0xCB
  | .set2D => 0xCB
  | .set2E => 0xCB
  | .set2H => 0xCB
  | .set2L => 0xCB
  | .set2MemHl => 0xCB
  | .set2A => 0xCB
  | .set3B => 0xCB
  | .set3C => 0xCB
  | .set3D => 0xCB
  | .set3E => 0xCB
  | .set3H => 0xCB
  | .set3L => 0xCB
  | .set3MemHl => 0xCB
  | .set3A => 0xCB
  | .set4B => 0xCB
  | .set4C => 0xCB
  | .set4D => 0xCB
  | .set4E => 0xCB
  | .set4H => 0xCB
  | .set4L => 0xCB
  | .set4MemHl => 0xCB
  | .set4A => 0xCB
  | .set5B => 0xCB
  | .set5C => 0xCB
  | .set5D => 0xCB
  | .set5E => 0xCB
  | .set5H => 0xCB
  | .set5L => 0xCB
  | .set5MemHl => 0xCB
  | .set5A => 0xCB
  | .set6B => 0xCB
  | .set6C => 0xCB
  | .set6D => 0xCB
  | .set6E => 0xCB
  | .set6H => 0xCB
  | .set6L => 0xCB
  | .set6MemHl => 0xCB
  | .set6A => 0xCB
  | .set7B => 0xCB
  | .set7C => 0xCB
  | .set7D => 0xCB
  | .set7E => 0xCB
  | .set7H => 0xCB
  | .set7L => 0xCB
  | .set7MemHl => 0xCB
  | .set7A => 0xCB

/-- The length of an instruction in bytes, fixed by its first byte (R151). -/
def Instr.length (i : Instr) : Nat :=
  opcodeLength i.firstByte

end Sys2Proof
end

