-- ==== Sys2Proof/Config.lean ====
section
/-! DEFINITION. What an implementation fixes: the sizes of spec/00_scope.md R7, the launch parameters of R9 and R700 as
plain data, and the one value the spec leaves open. The launch parameters of an accepted launch are held in State
(log entry 4), so that a statement over every state is a statement over every cartridge. -/

namespace Sys2Proof

/-- CART_KIND (R9): the two cartridge controllers of the machine. -/
inductive CartKind where
  | romOnly
  | mbc1
  deriving DecidableEq, Repr

/-- The launch profile (R700): power-on with the boot ROM mapped (R703), or the state at cartridge entry (R702). -/
inductive Profile where
  | boot
  | postBoot
  deriving DecidableEq, Repr

/-- The cartridge kind a launch asks for: one of the two the machine has, or another one, named by its header's
cartridge-type byte (R10, R422 X2). Parsing the header is out of scope (R5). -/
inductive RequestedKind where
  | supported (k : CartKind)
  | unsupported (typeByte : Byte)
  deriving DecidableEq, Repr

/-- ROM_BANKS (R9): the number of 0x4000-byte ROM banks, at least 2. -/
abbrev RomBanks := { n : Nat // 2 ≤ n }

/-- The eight buttons by name (R440). -/
inductive Button where
  | right | left | up | down | a | b | select | start
  deriving DecidableEq, Repr

/-- The eight buttons (R440), true while pressed. -/
structure Buttons where
  right : Bool
  left : Bool
  up : Bool
  down : Bool
  a : Bool
  b : Bool
  select : Bool
  start : Bool
  deriving DecidableEq, Repr

/-- The Input device's own select and button state (R68; the width of the select state is log entry 5). -/
structure Joypad where
  sel : Byte
  pressed : Buttons
  deriving DecidableEq, Repr

/-- What reaches the Input device (R440): a press, a release, or a bus write at 0xFF00. -/
inductive InputEvent where
  | press (k : Button)
  | release (k : Button)
  | write (v : Byte)
  deriving DecidableEq, Repr

/-- The parameter JOYPAD (R9, R440, R441): the Input device's read function, its write function and its interrupt policy, as
tables over the device's finite state. What a table does not list is as the default JOYPAD of R440 and R441 has it, so
empty tables are the default, and full ones are any device over that state (log entry 5). -/
structure JoypadParam where
  /-- What `read()` returns, by the device's state. -/
  reads : List (Joypad × Byte)
  /-- The select state `write(v)` leaves, by the device's state and v. -/
  writes : List ((Joypad × Byte) × Byte)
  /-- Whether an event requests Joypad, by the device's state before it. -/
  requests : List ((Joypad × InputEvent) × Bool)
  deriving DecidableEq, Repr

/-- A launch request (R9, R700), before it is checked: the cartridge image and its counts, the lengths of the buffers
handed to the fixed ROM banks (R10), the boot image of 256 bytes if there is one, the JOYPAD, and the profile. That the
buffers' lengths are a list of the request's own, which no rule derives from the image, is DESIGN CHOICE, unsafe, log entry
15; that profile POST_BOOT may come with a boot image is DESIGN CHOICE, unsafe, log entry 16. -/
structure LaunchRequest where
  kind : RequestedKind
  cart : List Byte
  fixedBankLengths : List Nat
  romBanks : RomBanks
  ramBanks : Nat
  hasRam : Bool
  boot : Option (Vector Byte 256)
  joypad : JoypadParam
  profile : Profile
  deriving DecidableEq, Repr

namespace Config

/-- A ROM bank (R9) and the largest buffer a fixed bank takes (R10). -/
def romBankSize : Nat := 0x4000

/-- A RAM bank (R9, R53). -/
def ramBankSize : Nat := 0x2000

/-- WRAM (R7, R45). -/
def wramSize : Nat := 0x2000

/-- HRAM (R7, R46). -/
def hramSize : Nat := 0x7F

/-- VRAM (R7, R47). -/
def vramSize : Nat := 0x2000

/-- OAM (R7, R47): 40 entries of 4 bytes. -/
def oamSize : Nat := 160

/-- GEN (R49). -/
def genSize : Nat := 0x10000

/-- The boot ROM image (R9). -/
def bootSize : Nat := 256

/-- Pixels of a line (R7). -/
def screenWidth : Nat := 160

/-- Visible lines (R7). -/
def screenHeight : Nat := 144

/-- T-cycles of a line (R7). -/
def lineLength : Nat := 456

/-- T-cycles of an OAM search (R7). -/
def oamSearchLength : Nat := 80

/-- Most entries selected on a line (R7, R522). -/
def maxSprites : Nat := 10

/-- What a byte of RAM, VRAM, OAM, GEN or the boot image that nothing has written reads as. DESIGN CHOICE, unsafe: the
spec says "any value (INIT)" (R70); log entry 3. -/
def unwritten : Byte := 0x00

/-- What the bus gives where there is no storage (R90 rule 1, R100, R115, R540, R541). -/
def openBus : Byte := 0xFF

/-- What cartridge RAM reads as at index `i` beyond its `RAM_BANKS * 0x2000` bytes. A FREE VALUE: the spec states none
(R53, R115); reachable only with RAM present and no bank, or after the fault of R113; log entry 8. -/
opaque cramBeyond (i : Nat) : Byte

end Config

end Sys2Proof
end

