-- ==== Sys2Proof/WellFormed.lean ====
section
/-! DEFINITION. Well-formedness. An instruction's fields are bit vectors of the width the encoding gives them (R151), so
every term of `Instr` is encodable and `Instr.wf` asks only for what the type cannot say: that its encoding has the
length R151 gives. A launch request is what can be ill-formed in this machine (R10, R700): `LaunchRequest.problem` names
the check a request fails. -/

namespace Sys2Proof

/-- Well-formed instruction: a length of 1, 2 or 3 bytes (R151). It holds of every instruction. -/
def Instr.wf (i : Instr) : Bool :=
  decide (1 ≤ i.length) && decide (i.length ≤ 3)

/-- The checks of a launch, by name (R10, R700). -/
inductive LaunchProblem where
  /-- A cartridge kind other than ROM-only or MBC1 (R422 X2), with its type byte. -/
  | unsupportedCartridge (typeByte : Byte)
  /-- A fixed ROM bank given more than 0x4000 bytes (R422 X3), with the buffer's length. -/
  | oversizedBank (length : Nat)
  /-- Profile BOOT with no boot image (R700); the name is the model's, since R422 lists none (log entry 17). -/
  | bootImageMissing
  deriving DecidableEq, Repr

/-- The check a launch fails, if any (R10, R700). The lengths of R10's buffers are those the request lists (log entry
15); no check concerns a boot image given with profile POST_BOOT (log entry 16). Where a launch fails several checks, the
first in the order X2, X3, missing boot image is named, and of several oversized buffers the first in the request's list
gives the length X3 records: DESIGN CHOICE, unsafe, log entry 17. -/
def LaunchRequest.problem (q : LaunchRequest) : Option LaunchProblem :=
  match q.kind with
  | .unsupported b => some (.unsupportedCartridge b)
  | .supported _ =>
    match q.fixedBankLengths.find? (fun n => decide (Config.romBankSize < n)) with
    | some n => some (.oversizedBank n)
    | none =>
      match q.profile, q.boot with
      | .boot, none => some .bootImageMissing
      | _, _ => none

/-- Well-formed launch request: it fails no check. That ROM_BANKS is at least 2 (R9) is in its type. -/
def LaunchRequest.wf (q : LaunchRequest) : Bool :=
  q.problem.isNone

end Sys2Proof
end

