-- ==== Sys2Proof/Decode.lean ====
section
/-! DEFINITION. The decoder (R150 to R165), row by row of the opcode map of R161 and of the CB map of R162, and after it the
encoder, from the same tables. The decoder of the fetch is `decodeBytes`, total on any three bytes; `decode` reads a list
of bytes and names what it rejects; `decodeTableWord` is the host's numbering of a row's bits (log entry 7). -/

namespace Sys2Proof

/-- Why a list of bytes holds no whole instruction: the only rejection, since every byte value is a row (R165). -/
inductive DecodeError where
  /-- No byte at all. -/
  | noBytes
  /-- Fewer bytes than the length the first byte fixes (R151). -/
  | truncated (op : Byte) (have_ need : Nat)
  deriving DecidableEq, Repr

/-- CB map (R162), second bytes 0x00 to 0x0F. -/
def decodeCbRow0 (lo : Nat) : Instr :=
  match lo with
  | 0x0 => .rlcB
  | 0x1 => .rlcC
  | 0x2 => .rlcD
  | 0x3 => .rlcE
  | 0x4 => .rlcH
  | 0x5 => .rlcL
  | 0x6 => .rlcMemHl
  | 0x7 => .rlcA
  | 0x8 => .rrcB
  | 0x9 => .rrcC
  | 0xA => .rrcD
  | 0xB => .rrcE
  | 0xC => .rrcH
  | 0xD => .rrcL
  | 0xE => .rrcMemHl
  | _ => .rrcA

/-- CB map (R162), second bytes 0x10 to 0x1F. -/
def decodeCbRow1 (lo : Nat) : Instr :=
  match lo with
  | 0x0 => .rlB
  | 0x1 => .rlC
  | 0x2 => .rlD
  | 0x3 => .rlE
  | 0x4 => .rlH
  | 0x5 => .rlL
  | 0x6 => .rlMemHl
  | 0x7 => .rlA
  | 0x8 => .rrB
  | 0x9 => .rrC
  | 0xA => .rrD
  | 0xB => .rrE
  | 0xC => .rrH
  | 0xD => .rrL
  | 0xE => .rrMemHl
  | _ => .rrA

/-- CB map (R162), second bytes 0x20 to 0x2F. -/
def decodeCbRow2 (lo : Nat) : Instr :=
  match lo with
  | 0x0 => .slaB
  | 0x1 => .slaC
  | 0x2 => .slaD
  | 0x3 => .slaE
  | 0x4 => .slaH
  | 0x5 => .slaL
  | 0x6 => .slaMemHl
  | 0x7 => .slaA
  | 0x8 => .sraB
  | 0x9 => .sraC
  | 0xA => .sraD
  | 0xB => .sraE
  | 0xC => .sraH
  | 0xD => .sraL
  | 0xE => .sraMemHl
  | _ => .sraA

/-- CB map (R162), second bytes 0x30 to 0x3F. -/
def decodeCbRow3 (lo : Nat) : Instr :=
  match lo with
  | 0x0 => .swapB
  | 0x1 => .swapC
  | 0x2 => .swapD
  | 0x3 => .swapE
  | 0x4 => .swapH
  | 0x5 => .swapL
  | 0x6 => .swapMemHl
  | 0x7 => .swapA
  | 0x8 => .srlB
  | 0x9 => .srlC
  | 0xA => .srlD
  | 0xB => .srlE
  | 0xC => .srlH
  | 0xD => .srlL
  | 0xE => .srlMemHl
  | _ => .srlA

/-- CB map (R162), second bytes 0x40 to 0x4F. -/
def decodeCbRow4 (lo : Nat) : Instr :=
  match lo with
  | 0x0 => .bit0B
  | 0x1 => .bit0C
  | 0x2 => .bit0D
  | 0x3 => .bit0E
  | 0x4 => .bit0H
  | 0x5 => .bit0L
  | 0x6 => .bit0MemHl
  | 0x7 => .bit0A
  | 0x8 => .bit1B
  | 0x9 => .bit1C
  | 0xA => .bit1D
  | 0xB => .bit1E
  | 0xC => .bit1H
  | 0xD => .bit1L
  | 0xE => .bit1MemHl
  | _ => .bit1A

/-- CB map (R162), second bytes 0x50 to 0x5F. -/
def decodeCbRow5 (lo : Nat) : Instr :=
  match lo with
  | 0x0 => .bit2B
  | 0x1 => .bit2C
  | 0x2 => .bit2D
  | 0x3 => .bit2E
  | 0x4 => .bit2H
  | 0x5 => .bit2L
  | 0x6 => .bit2MemHl
  | 0x7 => .bit2A
  | 0x8 => .bit3B
  | 0x9 => .bit3C
  | 0xA => .bit3D
  | 0xB => .bit3E
  | 0xC => .bit3H
  | 0xD => .bit3L
  | 0xE => .bit3MemHl
  | _ => .bit3A

/-- CB map (R162), second bytes 0x60 to 0x6F. -/
def decodeCbRow6 (lo : Nat) : Instr :=
  match lo with
  | 0x0 => .bit4B
  | 0x1 => .bit4C
  | 0x2 => .bit4D
  | 0x3 => .bit4E
  | 0x4 => .bit4H
  | 0x5 => .bit4L
  | 0x6 => .bit4MemHl
  | 0x7 => .bit4A
  | 0x8 => .bit5B
  | 0x9 => .bit5C
  | 0xA => .bit5D
  | 0xB => .bit5E
  | 0xC => .bit5H
  | 0xD => .bit5L
  | 0xE => .bit5MemHl
  | _ => .bit5A

/-- CB map (R162), second bytes 0x70 to 0x7F. -/
def decodeCbRow7 (lo : Nat) : Instr :=
  match lo with
  | 0x0 => .bit6B
  | 0x1 => .bit6C
  | 0x2 => .bit6D
  | 0x3 => .bit6E
  | 0x4 => .bit6H
  | 0x5 => .bit6L
  | 0x6 => .bit6MemHl
  | 0x7 => .bit6A
  | 0x8 => .bit7B
  | 0x9 => .bit7C
  | 0xA => .bit7D
  | 0xB => .bit7E
  | 0xC => .bit7H
  | 0xD => .bit7L
  | 0xE => .bit7MemHl
  | _ => .bit7A

/-- CB map (R162), second bytes 0x80 to 0x8F. -/
def decodeCbRow8 (lo : Nat) : Instr :=
  match lo with
  | 0x0 => .res0B
  | 0x1 => .res0C
  | 0x2 => .res0D
  | 0x3 => .res0E
  | 0x4 => .res0H
  | 0x5 => .res0L
  | 0x6 => .res0MemHl
  | 0x7 => .res0A
  | 0x8 => .res1B
  | 0x9 => .res1C
  | 0xA => .res1D
  | 0xB => .res1E
  | 0xC => .res1H
  | 0xD => .res1L
  | 0xE => .res1MemHl
  | _ => .res1A

/-- CB map (R162), second bytes 0x90 to 0x9F. -/
def decodeCbRow9 (lo : Nat) : Instr :=
  match lo with
  | 0x0 => .res2B
  | 0x1 => .res2C
  | 0x2 => .res2D
  | 0x3 => .res2E
  | 0x4 => .res2H
  | 0x5 => .res2L
  | 0x6 => .res2MemHl
  | 0x7 => .res2A
  | 0x8 => .res3B
  | 0x9 => .res3C
  | 0xA => .res3D
  | 0xB => .res3E
  | 0xC => .res3H
  | 0xD => .res3L
  | 0xE => .res3MemHl
  | _ => .res3A

/-- CB map (R162), second bytes 0xA0 to 0xAF. -/
def decodeCbRowA (lo : Nat) : Instr :=
  match lo with
  | 0x0 => .res4B
  | 0x1 => .res4C
  | 0x2 => .res4D
  | 0x3 => .res4E
  | 0x4 => .res4H
  | 0x5 => .res4L
  | 0x6 => .res4MemHl
  | 0x7 => .res4A
  | 0x8 => .res5B
  | 0x9 => .res5C
  | 0xA => .res5D
  | 0xB => .res5E
  | 0xC => .res5H
  | 0xD => .res5L
  | 0xE => .res5MemHl
  | _ => .res5A

/-- CB map (R162), second bytes 0xB0 to 0xBF. -/
def decodeCbRowB (lo : Nat) : Instr :=
  match lo with
  | 0x0 => .res6B
  | 0x1 => .res6C
  | 0x2 => .res6D
  | 0x3 => .res6E
  | 0x4 => .res6H
  | 0x5 => .res6L
  | 0x6 => .res6MemHl
  | 0x7 => .res6A
  | 0x8 => .res7B
  | 0x9 => .res7C
  | 0xA => .res7D
  | 0xB => .res7E
  | 0xC => .res7H
  | 0xD => .res7L
  | 0xE => .res7MemHl
  | _ => .res7A

/-- CB map (R162), second bytes 0xC0 to 0xCF. -/
def decodeCbRowC (lo : Nat) : Instr :=
  match lo with
  | 0x0 => .set0B
  | 0x1 => .set0C
  | 0x2 => .set0D
  | 0x3 => .set0E
  | 0x4 => .set0H
  | 0x5 => .set0L
  | 0x6 => .set0MemHl
  | 0x7 => .set0A
  | 0x8 => .set1B
  | 0x9 => .set1C
  | 0xA => .set1D
  | 0xB => .set1E
  | 0xC => .set1H
  | 0xD => .set1L
  | 0xE => .set1MemHl
  | _ => .set1A

/-- CB map (R162), second bytes 0xD0 to 0xDF. -/
def decodeCbRowD (lo : Nat) : Instr :=
  match lo with
  | 0x0 => .set2B
  | 0x1 => .set2C
  | 0x2 => .set2D
  | 0x3 => .set2E
  | 0x4 => .set2H
  | 0x5 => .set2L
  | 0x6 => .set2MemHl
  | 0x7 => .set2A
  | 0x8 => .set3B
  | 0x9 => .set3C
  | 0xA => .set3D
  | 0xB => .set3E
  | 0xC => .set3H
  | 0xD => .set3L
  | 0xE => .set3MemHl
  | _ => .set3A

/-- CB map (R162), second bytes 0xE0 to 0xEF. -/
def decodeCbRowE (lo : Nat) : Instr :=
  match lo with
  | 0x0 => .set4B
  | 0x1 => .set4C
  | 0x2 => .set4D
  | 0x3 => .set4E
  | 0x4 => .set4H
  | 0x5 => .set4L
  | 0x6 => .set4MemHl
  | 0x7 => .set4A
  | 0x8 => .set5B
  | 0x9 => .set5C
  | 0xA => .set5D
  | 0xB => .set5E
  | 0xC => .set5H
  | 0xD => .set5L
  | 0xE => .set5MemHl
  | _ => .set5A

/-- CB map (R162), second bytes 0xF0 to 0xFF. -/
def decodeCbRowF (lo : Nat) : Instr :=
  match lo with
  | 0x0 => .set6B
  | 0x1 => .set6C
  | 0x2 => .set6D
  | 0x3 => .set6E
  | 0x4 => .set6H
  | 0x5 => .set6L
  | 0x6 => .set6MemHl
  | 0x7 => .set6A
  | 0x8 => .set7B
  | 0x9 => .set7C
  | 0xA => .set7D
  | 0xB => .set7E
  | 0xC => .set7H
  | 0xD => .set7L
  | 0xE => .set7MemHl
  | _ => .set7A

/-- The CB space (R162, R360), indexed by the second byte. -/
def decodeCb (cb : Byte) : Instr :=
  match cb.toNat / 16 with
  | 0x0 => decodeCbRow0 (cb.toNat % 16)
  | 0x1 => decodeCbRow1 (cb.toNat % 16)
  | 0x2 => decodeCbRow2 (cb.toNat % 16)
  | 0x3 => decodeCbRow3 (cb.toNat % 16)
  | 0x4 => decodeCbRow4 (cb.toNat % 16)
  | 0x5 => decodeCbRow5 (cb.toNat % 16)
  | 0x6 => decodeCbRow6 (cb.toNat % 16)
  | 0x7 => decodeCbRow7 (cb.toNat % 16)
  | 0x8 => decodeCbRow8 (cb.toNat % 16)
  | 0x9 => decodeCbRow9 (cb.toNat % 16)
  | 0xA => decodeCbRowA (cb.toNat % 16)
  | 0xB => decodeCbRowB (cb.toNat % 16)
  | 0xC => decodeCbRowC (cb.toNat % 16)
  | 0xD => decodeCbRowD (cb.toNat % 16)
  | 0xE => decodeCbRowE (cb.toNat % 16)
  | _ => decodeCbRowF (cb.toNat % 16)

/-- Opcode map (R161), first bytes 0x00 to 0x0F; `n` is the second byte and `nn` the second and third (R157 to R159). -/
def decodeRow0 (lo : Nat) (n : Byte) (nn : Word) : Instr :=
  match lo with
  | 0x0 => .nop
  | 0x1 => .ldBcNn nn
  | 0x2 => .ldMemBcA
  | 0x3 => .incBc
  | 0x4 => .incB
  | 0x5 => .decB
  | 0x6 => .ldBN n
  | 0x7 => .rlca
  | 0x8 => .ldMemNnSp nn
  | 0x9 => .addHlBc
  | 0xA => .ldAMemBc
  | 0xB => .decBc
  | 0xC => .incC
  | 0xD => .decC
  | 0xE => .ldCN n
  | _ => .rrca

/-- Opcode map (R161), first bytes 0x10 to 0x1F; `n` is the second byte and `nn` the second and third (R157 to R159). -/
def decodeRow1 (lo : Nat) (n : Byte) (nn : Word) : Instr :=
  match lo with
  | 0x0 => .stop
  | 0x1 => .ldDeNn nn
  | 0x2 => .ldMemDeA
  | 0x3 => .incDe
  | 0x4 => .incD
  | 0x5 => .decD
  | 0x6 => .ldDN n
  | 0x7 => .rla
  | 0x8 => .jr n
  | 0x9 => .addHlDe
  | 0xA => .ldAMemDe
  | 0xB => .decDe
  | 0xC => .incE
  | 0xD => .decE
  | 0xE => .ldEN n
  | _ => .rra

/-- Opcode map (R161), first bytes 0x20 to 0x2F; `n` is the second byte and `nn` the second and third (R157 to R159). -/
def decodeRow2 (lo : Nat) (n : Byte) (nn : Word) : Instr :=
  match lo with
  | 0x0 => .jrNz n
  | 0x1 => .ldHlNn nn
  | 0x2 => .ldMemHlIncA
  | 0x3 => .incHl
  | 0x4 => .incH
  | 0x5 => .decH
  | 0x6 => .ldHN n
  | 0x7 => .daa
  | 0x8 => .jrZ n
  | 0x9 => .addHlHl
  | 0xA => .ldAMemHlInc
  | 0xB => .decHl
  | 0xC => .incL
  | 0xD => .decL
  | 0xE => .ldLN n
  | _ => .cpl

/-- Opcode map (R161), first bytes 0x30 to 0x3F; `n` is the second byte and `nn` the second and third (R157 to R159). -/
def decodeRow3 (lo : Nat) (n : Byte) (nn : Word) : Instr :=
  match lo with
  | 0x0 => .jrNc n
  | 0x1 => .ldSpNn nn
  | 0x2 => .ldMemHlDecA
  | 0x3 => .incSp
  | 0x4 => .incMemHl
  | 0x5 => .decMemHl
  | 0x6 => .ldMemHlN n
  | 0x7 => .scf
  | 0x8 => .jrC n
  | 0x9 => .addHlSp
  | 0xA => .ldAMemHlDec
  | 0xB => .decSp
  | 0xC => .incA
  | 0xD => .decA
  | 0xE => .ldAN n
  | _ => .ccf

/-- Opcode map (R161), first bytes 0x40 to 0x4F; `n` is the second byte and `nn` the second and third (R157 to R159). -/
def decodeRow4 (lo : Nat) (_n : Byte) (_nn : Word) : Instr :=
  match lo with
  | 0x0 => .ldBB
  | 0x1 => .ldBC
  | 0x2 => .ldBD
  | 0x3 => .ldBE
  | 0x4 => .ldBH
  | 0x5 => .ldBL
  | 0x6 => .ldBMemHl
  | 0x7 => .ldBA
  | 0x8 => .ldCB
  | 0x9 => .ldCC
  | 0xA => .ldCD
  | 0xB => .ldCE
  | 0xC => .ldCH
  | 0xD => .ldCL
  | 0xE => .ldCMemHl
  | _ => .ldCA

/-- Opcode map (R161), first bytes 0x50 to 0x5F; `n` is the second byte and `nn` the second and third (R157 to R159). -/
def decodeRow5 (lo : Nat) (_n : Byte) (_nn : Word) : Instr :=
  match lo with
  | 0x0 => .ldDB
  | 0x1 => .ldDC
  | 0x2 => .ldDD
  | 0x3 => .ldDE
  | 0x4 => .ldDH
  | 0x5 => .ldDL
  | 0x6 => .ldDMemHl
  | 0x7 => .ldDA
  | 0x8 => .ldEB
  | 0x9 => .ldEC
  | 0xA => .ldED
  | 0xB => .ldEE
  | 0xC => .ldEH
  | 0xD => .ldEL
  | 0xE => .ldEMemHl
  | _ => .ldEA

/-- Opcode map (R161), first bytes 0x60 to 0x6F; `n` is the second byte and `nn` the second and third (R157 to R159). -/
def decodeRow6 (lo : Nat) (_n : Byte) (_nn : Word) : Instr :=
  match lo with
  | 0x0 => .ldHB
  | 0x1 => .ldHC
  | 0x2 => .ldHD
  | 0x3 => .ldHE
  | 0x4 => .ldHH
  | 0x5 => .ldHL
  | 0x6 => .ldHMemHl
  | 0x7 => .ldHA
  | 0x8 => .ldLB
  | 0x9 => .ldLC
  | 0xA => .ldLD
  | 0xB => .ldLE
  | 0xC => .ldLH
  | 0xD => .ldLL
  | 0xE => .ldLMemHl
  | _ => .ldLA

/-- Opcode map (R161), first bytes 0x70 to 0x7F; `n` is the second byte and `nn` the second and third (R157 to R159). -/
def decodeRow7 (lo : Nat) (_n : Byte) (_nn : Word) : Instr :=
  match lo with
  | 0x0 => .ldMemHlB
  | 0x1 => .ldMemHlC
  | 0x2 => .ldMemHlD
  | 0x3 => .ldMemHlE
  | 0x4 => .ldMemHlH
  | 0x5 => .ldMemHlL
  | 0x6 => .halt
  | 0x7 => .ldMemHlA
  | 0x8 => .ldAB
  | 0x9 => .ldAC
  | 0xA => .ldAD
  | 0xB => .ldAE
  | 0xC => .ldAH
  | 0xD => .ldAL
  | 0xE => .ldAMemHl
  | _ => .ldAA

/-- Opcode map (R161), first bytes 0x80 to 0x8F; `n` is the second byte and `nn` the second and third (R157 to R159). -/
def decodeRow8 (lo : Nat) (_n : Byte) (_nn : Word) : Instr :=
  match lo with
  | 0x0 => .addAB
  | 0x1 => .addAC
  | 0x2 => .addAD
  | 0x3 => .addAE
  | 0x4 => .addAH
  | 0x5 => .addAL
  | 0x6 => .addAMemHl
  | 0x7 => .addAA
  | 0x8 => .adcAB
  | 0x9 => .adcAC
  | 0xA => .adcAD
  | 0xB => .adcAE
  | 0xC => .adcAH
  | 0xD => .adcAL
  | 0xE => .adcAMemHl
  | _ => .adcAA

/-- Opcode map (R161), first bytes 0x90 to 0x9F; `n` is the second byte and `nn` the second and third (R157 to R159). -/
def decodeRow9 (lo : Nat) (_n : Byte) (_nn : Word) : Instr :=
  match lo with
  | 0x0 => .subB
  | 0x1 => .subC
  | 0x2 => .subD
  | 0x3 => .subE
  | 0x4 => .subH
  | 0x5 => .subL
  | 0x6 => .subMemHl
  | 0x7 => .subA
  | 0x8 => .sbcAB
  | 0x9 => .sbcAC
  | 0xA => .sbcAD
  | 0xB => .sbcAE
  | 0xC => .sbcAH
  | 0xD => .sbcAL
  | 0xE => .sbcAMemHl
  | _ => .sbcAA

/-- Opcode map (R161), first bytes 0xA0 to 0xAF; `n` is the second byte and `nn` the second and third (R157 to R159). -/
def decodeRowA (lo : Nat) (_n : Byte) (_nn : Word) : Instr :=
  match lo with
  | 0x0 => .andB
  | 0x1 => .andC
  | 0x2 => .andD
  | 0x3 => .andE
  | 0x4 => .andH
  | 0x5 => .andL
  | 0x6 => .andMemHl
  | 0x7 => .andA
  | 0x8 => .xorB
  | 0x9 => .xorC
  | 0xA => .xorD
  | 0xB => .xorE
  | 0xC => .xorH
  | 0xD => .xorL
  | 0xE => .xorMemHl
  | _ => .xorA

/-- Opcode map (R161), first bytes 0xB0 to 0xBF; `n` is the second byte and `nn` the second and third (R157 to R159). -/
def decodeRowB (lo : Nat) (_n : Byte) (_nn : Word) : Instr :=
  match lo with
  | 0x0 => .orB
  | 0x1 => .orC
  | 0x2 => .orD
  | 0x3 => .orE
  | 0x4 => .orH
  | 0x5 => .orL
  | 0x6 => .orMemHl
  | 0x7 => .orA
  | 0x8 => .cpB
  | 0x9 => .cpC
  | 0xA => .cpD
  | 0xB => .cpE
  | 0xC => .cpH
  | 0xD => .cpL
  | 0xE => .cpMemHl
  | _ => .cpA

/-- Opcode map (R161), first bytes 0xC0 to 0xCF; `n` is the second byte and `nn` the second and third (R157 to R159). -/
def decodeRowC (lo : Nat) (n : Byte) (nn : Word) : Instr :=
  match lo with
  | 0x0 => .retNz
  | 0x1 => .popBc
  | 0x2 => .jpNzNn nn
  | 0x3 => .jpNn nn
  | 0x4 => .callNzNn nn
  | 0x5 => .pushBc
  | 0x6 => .addAN n
  | 0x7 => .rst00
  | 0x8 => .retZ
  | 0x9 => .ret
  | 0xA => .jpZNn nn
  | 0xB => decodeCb n
  | 0xC => .callZNn nn
  | 0xD => .callNn nn
  | 0xE => .adcAN n
  | _ => .rst08

/-- Opcode map (R161), first bytes 0xD0 to 0xDF; `n` is the second byte and `nn` the second and third (R157 to R159). -/
def decodeRowD (lo : Nat) (n : Byte) (nn : Word) : Instr :=
  match lo with
  | 0x0 => .retNc
  | 0x1 => .popDe
  | 0x2 => .jpNcNn nn
  | 0x3 => .illegalD3
  | 0x4 => .callNcNn nn
  | 0x5 => .pushDe
  | 0x6 => .subN n
  | 0x7 => .rst10
  | 0x8 => .retC
  | 0x9 => .reti
  | 0xA => .jpCNn nn
  | 0xB => .illegalDB
  | 0xC => .callCNn nn
  | 0xD => .illegalDD
  | 0xE => .sbcAN n
  | _ => .rst18

/-- Opcode map (R161), first bytes 0xE0 to 0xEF; `n` is the second byte and `nn` the second and third (R157 to R159). -/
def decodeRowE (lo : Nat) (n : Byte) (nn : Word) : Instr :=
  match lo with
  | 0x0 => .ldhMemNA n
  | 0x1 => .popHl
  | 0x2 => .ldhMemCA
  | 0x3 => .illegalE3
  | 0x4 => .illegalE4
  | 0x5 => .pushHl
  | 0x6 => .andN n
  | 0x7 => .rst20
  | 0x8 => .addSpE n
  | 0x9 => .jpHl
  | 0xA => .ldMemNnA nn
  | 0xB => .illegalEB
  | 0xC => .illegalEC
  | 0xD => .illegalED
  | 0xE => .xorN n
  | _ => .rst28

/-- Opcode map (R161), first bytes 0xF0 to 0xFF; `n` is the second byte and `nn` the second and third (R157 to R159). -/
def decodeRowF (lo : Nat) (n : Byte) (nn : Word) : Instr :=
  match lo with
  | 0x0 => .ldhAMemN n
  | 0x1 => .popAf
  | 0x2 => .ldhAMemC
  | 0x3 => .di
  | 0x4 => .illegalF4
  | 0x5 => .pushAf
  | 0x6 => .orN n
  | 0x7 => .rst30
  | 0x8 => .ldHlSpE n
  | 0x9 => .ldSpHl
  | 0xA => .ldAMemNn nn
  | 0xB => .ei
  | 0xC => .illegalFC
  | 0xD => .illegalFD
  | 0xE => .cpN n
  | _ => .rst38

/-- The instruction whose first three bytes are `b0`, `b1`, `b2` (R165); bytes beyond its length are not looked at. -/
def decodeBytes (b0 b1 b2 : Byte) : Instr :=
  match b0.toNat / 16 with
  | 0x0 => decodeRow0 (b0.toNat % 16) b1 (b2 ++ b1)
  | 0x1 => decodeRow1 (b0.toNat % 16) b1 (b2 ++ b1)
  | 0x2 => decodeRow2 (b0.toNat % 16) b1 (b2 ++ b1)
  | 0x3 => decodeRow3 (b0.toNat % 16) b1 (b2 ++ b1)
  | 0x4 => decodeRow4 (b0.toNat % 16) b1 (b2 ++ b1)
  | 0x5 => decodeRow5 (b0.toNat % 16) b1 (b2 ++ b1)
  | 0x6 => decodeRow6 (b0.toNat % 16) b1 (b2 ++ b1)
  | 0x7 => decodeRow7 (b0.toNat % 16) b1 (b2 ++ b1)
  | 0x8 => decodeRow8 (b0.toNat % 16) b1 (b2 ++ b1)
  | 0x9 => decodeRow9 (b0.toNat % 16) b1 (b2 ++ b1)
  | 0xA => decodeRowA (b0.toNat % 16) b1 (b2 ++ b1)
  | 0xB => decodeRowB (b0.toNat % 16) b1 (b2 ++ b1)
  | 0xC => decodeRowC (b0.toNat % 16) b1 (b2 ++ b1)
  | 0xD => decodeRowD (b0.toNat % 16) b1 (b2 ++ b1)
  | 0xE => decodeRowE (b0.toNat % 16) b1 (b2 ++ b1)
  | _ => decodeRowF (b0.toNat % 16) b1 (b2 ++ b1)

/-- Reads one instruction from a list of bytes and gives the rest (R151, R165). -/
def decode (bs : List Byte) : Except DecodeError (Instr × List Byte) :=
  match bs with
  | [] => .error .noBytes
  | b0 :: rest =>
    match opcodeLength b0, rest with
    | 1, rest => .ok (decodeBytes b0 0 0, rest)
    | 2, b1 :: rest => .ok (decodeBytes b0 b1 0, rest)
    | 3, b1 :: b2 :: rest => .ok (decodeBytes b0 b1 b2, rest)
    | n, rest => .error (.truncated b0 (1 + rest.length) n)

/-- The bytes, in memory order, of the word that spec/opcode_table.json numbers as `w`. The table gives 8 bits to every row
of the primary space (the first byte) and 16 bits to the CB rows only, whose first byte 0xCB it writes in bits 15..8
(`match` 0xCB00); any other word has its first byte in bits 7..0 and the later bytes above it, as the table's note
numbers them. Bits above `nbits` are 0. Log entry 7. -/
def tableBytes (nbits w : Nat) : List Byte :=
  let v := w % 2 ^ nbits
  if 8 < nbits ∧ v / 256 = 0xCB then [0xCB, BitVec.ofNat 8 v, 0]
  else [BitVec.ofNat 8 v, BitVec.ofNat 8 (v / 256), BitVec.ofNat 8 (v / 65536)]

/-- The instruction this decoder reads from a word numbered as the opcode table numbers it. -/
def decodeTableWord (nbits w : Nat) : Option Instr :=
  match decode (tableBytes nbits w) with
  | .ok (i, _) => some i
  | .error _ => none

/-- The low byte of a 16-bit immediate, its second byte in memory order (R159). -/
def immLow (nn : Word) : Byte := nn.setWidth 8

/-- The high byte of a 16-bit immediate, its third byte in memory order (R159). -/
def immHigh (nn : Word) : Byte := (nn >>> 8).setWidth 8

/-- The bytes of an instruction in memory order (R151, R161, R162). STOP's second byte is 0x00 (its row of the table). -/
def encode (i : Instr) : List Byte :=
  match i with
  | .nop => [0x00]
  | .ldBcNn nn => [0x01, immLow nn, immHigh nn]
  | .ldMemBcA => [0x02]
  | .incBc => [0x03]
  | .incB => [0x04]
  | .decB => [0x05]
  | .ldBN n => [0x06, n]
  | .rlca => [0x07]
  | .ldMemNnSp nn => [0x08, immLow nn, immHigh nn]
  | .addHlBc => [0x09]
  | .ldAMemBc => [0x0A]
  | .decBc => [0x0B]
  | .incC => [0x0C]
  | .decC => [0x0D]
  | .ldCN n => [0x0E, n]
  | .rrca => [0x0F]
  | .stop => [0x10, 0x00]
  | .ldDeNn nn => [0x11, immLow nn, immHigh nn]
  | .ldMemDeA => [0x12]
  | .incDe => [0x13]
  | .incD => [0x14]
  | .decD => [0x15]
  | .ldDN n => [0x16, n]
  | .rla => [0x17]
  | .jr e => [0x18, e]
  | .addHlDe => [0x19]
  | .ldAMemDe => [0x1A]
  | .decDe => [0x1B]
  | .incE => [0x1C]
  | .decE => [0x1D]
  | .ldEN n => [0x1E, n]
  | .rra => [0x1F]
  | .jrNz e => [0x20, e]
  | .ldHlNn nn => [0x21, immLow nn, immHigh nn]
  | .ldMemHlIncA => [0x22]
  | .incHl => [0x23]
  | .incH => [0x24]
  | .decH => [0x25]
  | .ldHN n => [0x26, n]
  | .daa => [0x27]
  | .jrZ e => [0x28, e]
  | .addHlHl => [0x29]
  | .ldAMemHlInc => [0x2A]
  | .decHl => [0x2B]
  | .incL => [0x2C]
  | .decL => [0x2D]
  | .ldLN n => [0x2E, n]
  | .cpl => [0x2F]
  | .jrNc e => [0x30, e]
  | .ldSpNn nn => [0x31, immLow nn, immHigh nn]
  | .ldMemHlDecA => [0x32]
  | .incSp => [0x33]
  | .incMemHl => [0x34]
  | .decMemHl => [0x35]
  | .ldMemHlN n => [0x36, n]
  | .scf => [0x37]
  | .jrC e => [0x38, e]
  | .addHlSp => [0x39]
  | .ldAMemHlDec => [0x3A]
  | .decSp => [0x3B]
  | .incA => [0x3C]
  | .decA => [0x3D]
  | .ldAN n => [0x3E, n]
  | .ccf => [0x3F]
  | .ldBB => [0x40]
  | .ldBC => [0x41]
  | .ldBD => [0x42]
  | .ldBE => [0x43]
  | .ldBH => [0x44]
  | .ldBL => [0x45]
  | .ldBMemHl => [0x46]
  | .ldBA => [0x47]
  | .ldCB => [0x48]
  | .ldCC => [0x49]
  | .ldCD => [0x4A]
  | .ldCE => [0x4B]
  | .ldCH => [0x4C]
  | .ldCL => [0x4D]
  | .ldCMemHl => [0x4E]
  | .ldCA => [0x4F]
  | .ldDB => [0x50]
  | .ldDC => [0x51]
  | .ldDD => [0x52]
  | .ldDE => [0x53]
  | .ldDH => [0x54]
  | .ldDL => [0x55]
  | .ldDMemHl => [0x56]
  | .ldDA => [0x57]
  | .ldEB => [0x58]
  | .ldEC => [0x59]
  | .ldED => [0x5A]
  | .ldEE => [0x5B]
  | .ldEH => [0x5C]
  | .ldEL => [0x5D]
  | .ldEMemHl => [0x5E]
  | .ldEA => [0x5F]
  | .ldHB => [0x60]
  | .ldHC => [0x61]
  | .ldHD => [0x62]
  | .ldHE => [0x63]
  | .ldHH => [0x64]
  | .ldHL => [0x65]
  | .ldHMemHl => [0x66]
  | .ldHA => [0x67]
  | .ldLB => [0x68]
  | .ldLC => [0x69]
  | .ldLD => [0x6A]
  | .ldLE => [0x6B]
  | .ldLH => [0x6C]
  | .ldLL => [0x6D]
  | .ldLMemHl => [0x6E]
  | .ldLA => [0x6F]
  | .ldMemHlB => [0x70]
  | .ldMemHlC => [0x71]
  | .ldMemHlD => [0x72]
  | .ldMemHlE => [0x73]
  | .ldMemHlH => [0x74]
  | .ldMemHlL => [0x75]
  | .halt => [0x76]
  | .ldMemHlA => [0x77]
  | .ldAB => [0x78]
  | .ldAC => [0x79]
  | .ldAD => [0x7A]
  | .ldAE => [0x7B]
  | .ldAH => [0x7C]
  | .ldAL => [0x7D]
  | .ldAMemHl => [0x7E]
  | .ldAA => [0x7F]
  | .addAB => [0x80]
  | .addAC => [0x81]
  | .addAD => [0x82]
  | .addAE => [0x83]
  | .addAH => [0x84]
  | .addAL => [0x85]
  | .addAMemHl => [0x86]
  | .addAA => [0x87]
  | .adcAB => [0x88]
  | .adcAC => [0x89]
  | .adcAD => [0x8A]
  | .adcAE => [0x8B]
  | .adcAH => [0x8C]
  | .adcAL => [0x8D]
  | .adcAMemHl => [0x8E]
  | .adcAA => [0x8F]
  | .subB => [0x90]
  | .subC => [0x91]
  | .subD => [0x92]
  | .subE => [0x93]
  | .subH => [0x94]
  | .subL => [0x95]
  | .subMemHl => [0x96]
  | .subA => [0x97]
  | .sbcAB => [0x98]
  | .sbcAC => [0x99]
  | .sbcAD => [0x9A]
  | .sbcAE => [0x9B]
  | .sbcAH => [0x9C]
  | .sbcAL => [0x9D]
  | .sbcAMemHl => [0x9E]
  | .sbcAA => [0x9F]
  | .andB => [0xA0]
  | .andC => [0xA1]
  | .andD => [0xA2]
  | .andE => [0xA3]
  | .andH => [0xA4]
  | .andL => [0xA5]
  | .andMemHl => [0xA6]
  | .andA => [0xA7]
  | .xorB => [0xA8]
  | .xorC => [0xA9]
  | .xorD => [0xAA]
  | .xorE => [0xAB]
  | .xorH => [0xAC]
  | .xorL => [0xAD]
  | .xorMemHl => [0xAE]
  | .xorA => [0xAF]
  | .orB => [0xB0]
  | .orC => [0xB1]
  | .orD => [0xB2]
  | .orE => [0xB3]
  | .orH => [0xB4]
  | .orL => [0xB5]
  | .orMemHl => [0xB6]
  | .orA => [0xB7]
  | .cpB => [0xB8]
  | .cpC => [0xB9]
  | .cpD => [0xBA]
  | .cpE => [0xBB]
  | .cpH => [0xBC]
  | .cpL => [0xBD]
  | .cpMemHl => [0xBE]
  | .cpA => [0xBF]
  | .retNz => [0xC0]
  | .popBc => [0xC1]
  | .jpNzNn nn => [0xC2, immLow nn, immHigh nn]
  | .jpNn nn => [0xC3, immLow nn, immHigh nn]
  | .callNzNn nn => [0xC4, immLow nn, immHigh nn]
  | .pushBc => [0xC5]
  | .addAN n => [0xC6, n]
  | .rst00 => [0xC7]
  | .retZ => [0xC8]
  | .ret => [0xC9]
  | .jpZNn nn => [0xCA, immLow nn, immHigh nn]
  | .callZNn nn => [0xCC, immLow nn, immHigh nn]
  | .callNn nn => [0xCD, immLow nn, immHigh nn]
  | .adcAN n => [0xCE, n]
  | .rst08 => [0xCF]
  | .retNc => [0xD0]
  | .popDe => [0xD1]
  | .jpNcNn nn => [0xD2, immLow nn, immHigh nn]
  | .illegalD3 => [0xD3]
  | .callNcNn nn => [0xD4, immLow nn, immHigh nn]
  | .pushDe => [0xD5]
  | .subN n => [0xD6, n]
  | .rst10 => [0xD7]
  | .retC => [0xD8]
  | .reti => [0xD9]
  | .jpCNn nn => [0xDA, immLow nn, immHigh nn]
  | .illegalDB => [0xDB]
  | .callCNn nn => [0xDC, immLow nn, immHigh nn]
  | .illegalDD => [0xDD]
  | .sbcAN n => [0xDE, n]
  | .rst18 => [0xDF]
  | .ldhMemNA n => [0xE0, n]
  | .popHl => [0xE1]
  | .ldhMemCA => [0xE2]
  | .illegalE3 => [0xE3]
  | .illegalE4 => [0xE4]
  | .pushHl => [0xE5]
  | .andN n => [0xE6, n]
  | .rst20 => [0xE7]
  | .addSpE e => [0xE8, e]
  | .jpHl => [0xE9]
  | .ldMemNnA nn => [0xEA, immLow nn, immHigh nn]
  | .illegalEB => [0xEB]
  | .illegalEC => [0xEC]
  | .illegalED => [0xED]
  | .xorN n => [0xEE, n]
  | .rst28 => [0xEF]
  | .ldhAMemN n => [0xF0, n]
  | .popAf => [0xF1]
  | .ldhAMemC => [0xF2]
  | .di => [0xF3]
  | .illegalF4 => [0xF4]
  | .pushAf => [0xF5]
  | .orN n => [0xF6, n]
  | .rst30 => [0xF7]
  | .ldHlSpE e => [0xF8, e]
  | .ldSpHl => [0xF9]
  | .ldAMemNn nn => [0xFA, immLow nn, immHigh nn]
  | .ei => [0xFB]
  | .illegalFC => [0xFC]
  | .illegalFD => [0xFD]
  | .cpN n => [0xFE, n]
  | .rst38 => [0xFF]
  | .rlcB => [0xCB, 0x00]
  | .rlcC => [0xCB, 0x01]
  | .rlcD => [0xCB, 0x02]
  | .rlcE => [0xCB, 0x03]
  | .rlcH => [0xCB, 0x04]
  | .rlcL => [0xCB, 0x05]
  | .rlcMemHl => [0xCB, 0x06]
  | .rlcA => [0xCB, 0x07]
  | .rrcB => [0xCB, 0x08]
  | .rrcC => [0xCB, 0x09]
  | .rrcD => [0xCB, 0x0A]
  | .rrcE => [0xCB, 0x0B]
  | .rrcH => [0xCB, 0x0C]
  | .rrcL => [0xCB, 0x0D]
  | .rrcMemHl => [0xCB, 0x0E]
  | .rrcA => [0xCB, 0x0F]
  | .rlB => [0xCB, 0x10]
  | .rlC => [0xCB, 0x11]
  | .rlD => [0xCB, 0x12]
  | .rlE => [0xCB, 0x13]
  | .rlH => [0xCB, 0x14]
  | .rlL => [0xCB, 0x15]
  | .rlMemHl => [0xCB, 0x16]
  | .rlA => [0xCB, 0x17]
  | .rrB => [0xCB, 0x18]
  | .rrC => [0xCB, 0x19]
  | .rrD => [0xCB, 0x1A]
  | .rrE => [0xCB, 0x1B]
  | .rrH => [0xCB, 0x1C]
  | .rrL => [0xCB, 0x1D]
  | .rrMemHl => [0xCB, 0x1E]
  | .rrA => [0xCB, 0x1F]
  | .slaB => [0xCB, 0x20]
  | .slaC => [0xCB, 0x21]
  | .slaD => [0xCB, 0x22]
  | .slaE => [0xCB, 0x23]
  | .slaH => [0xCB, 0x24]
  | .slaL => [0xCB, 0x25]
  | .slaMemHl => [0xCB, 0x26]
  | .slaA => [0xCB, 0x27]
  | .sraB => [0xCB, 0x28]
  | .sraC => [0xCB, 0x29]
  | .sraD => [0xCB, 0x2A]
  | .sraE => [0xCB, 0x2B]
  | .sraH => [0xCB, 0x2C]
  | .sraL => [0xCB, 0x2D]
  | .sraMemHl => [0xCB, 0x2E]
  | .sraA => [0xCB, 0x2F]
  | .swapB => [0xCB, 0x30]
  | .swapC => [0xCB, 0x31]
  | .swapD => [0xCB, 0x32]
  | .swapE => [0xCB, 0x33]
  | .swapH => [0xCB, 0x34]
  | .swapL => [0xCB, 0x35]
  | .swapMemHl => [0xCB, 0x36]
  | .swapA => [0xCB, 0x37]
  | .srlB => [0xCB, 0x38]
  | .srlC => [0xCB, 0x39]
  | .srlD => [0xCB, 0x3A]
  | .srlE => [0xCB, 0x3B]
  | .srlH => [0xCB, 0x3C]
  | .srlL => [0xCB, 0x3D]
  | .srlMemHl => [0xCB, 0x3E]
  | .srlA => [0xCB, 0x3F]
  | .bit0B => [0xCB, 0x40]
  | .bit0C => [0xCB, 0x41]
  | .bit0D => [0xCB, 0x42]
  | .bit0E => [0xCB, 0x43]
  | .bit0H => [0xCB, 0x44]
  | .bit0L => [0xCB, 0x45]
  | .bit0MemHl => [0xCB, 0x46]
  | .bit0A => [0xCB, 0x47]
  | .bit1B => [0xCB, 0x48]
  | .bit1C => [0xCB, 0x49]
  | .bit1D => [0xCB, 0x4A]
  | .bit1E => [0xCB, 0x4B]
  | .bit1H => [0xCB, 0x4C]
  | .bit1L => [0xCB, 0x4D]
  | .bit1MemHl => [0xCB, 0x4E]
  | .bit1A => [0xCB, 0x4F]
  | .bit2B => [0xCB, 0x50]
  | .bit2C => [0xCB, 0x51]
  | .bit2D => [0xCB, 0x52]
  | .bit2E => [0xCB, 0x53]
  | .bit2H => [0xCB, 0x54]
  | .bit2L => [0xCB, 0x55]
  | .bit2MemHl => [0xCB, 0x56]
  | .bit2A => [0xCB, 0x57]
  | .bit3B => [0xCB, 0x58]
  | .bit3C => [0xCB, 0x59]
  | .bit3D => [0xCB, 0x5A]
  | .bit3E => [0xCB, 0x5B]
  | .bit3H => [0xCB, 0x5C]
  | .bit3L => [0xCB, 0x5D]
  | .bit3MemHl => [0xCB, 0x5E]
  | .bit3A => [0xCB, 0x5F]
  | .bit4B => [0xCB, 0x60]
  | .bit4C => [0xCB, 0x61]
  | .bit4D => [0xCB, 0x62]
  | .bit4E => [0xCB, 0x63]
  | .bit4H => [0xCB, 0x64]
  | .bit4L => [0xCB, 0x65]
  | .bit4MemHl => [0xCB, 0x66]
  | .bit4A => [0xCB, 0x67]
  | .bit5B => [0xCB, 0x68]
  | .bit5C => [0xCB, 0x69]
  | .bit5D => [0xCB, 0x6A]
  | .bit5E => [0xCB, 0x6B]
  | .bit5H => [0xCB, 0x6C]
  | .bit5L => [0xCB, 0x6D]
  | .bit5MemHl => [0xCB, 0x6E]
  | .bit5A => [0xCB, 0x6F]
  | .bit6B => [0xCB, 0x70]
  | .bit6C => [0xCB, 0x71]
  | .bit6D => [0xCB, 0x72]
  | .bit6E => [0xCB, 0x73]
  | .bit6H => [0xCB, 0x74]
  | .bit6L => [0xCB, 0x75]
  | .bit6MemHl => [0xCB, 0x76]
  | .bit6A => [0xCB, 0x77]
  | .bit7B => [0xCB, 0x78]
  | .bit7C => [0xCB, 0x79]
  | .bit7D => [0xCB, 0x7A]
  | .bit7E => [0xCB, 0x7B]
  | .bit7H => [0xCB, 0x7C]
  | .bit7L => [0xCB, 0x7D]
  | .bit7MemHl => [0xCB, 0x7E]
  | .bit7A => [0xCB, 0x7F]
  | .res0B => [0xCB, 0x80]
  | .res0C => [0xCB, 0x81]
  | .res0D => [0xCB, 0x82]
  | .res0E => [0xCB, 0x83]
  | .res0H => [0xCB, 0x84]
  | .res0L => [0xCB, 0x85]
  | .res0MemHl => [0xCB, 0x86]
  | .res0A => [0xCB, 0x87]
  | .res1B => [0xCB, 0x88]
  | .res1C => [0xCB, 0x89]
  | .res1D => [0xCB, 0x8A]
  | .res1E => [0xCB, 0x8B]
  | .res1H => [0xCB, 0x8C]
  | .res1L => [0xCB, 0x8D]
  | .res1MemHl => [0xCB, 0x8E]
  | .res1A => [0xCB, 0x8F]
  | .res2B => [0xCB, 0x90]
  | .res2C => [0xCB, 0x91]
  | .res2D => [0xCB, 0x92]
  | .res2E => [0xCB, 0x93]
  | .res2H => [0xCB, 0x94]
  | .res2L => [0xCB, 0x95]
  | .res2MemHl => [0xCB, 0x96]
  | .res2A => [0xCB, 0x97]
  | .res3B => [0xCB, 0x98]
  | .res3C => [0xCB, 0x99]
  | .res3D => [0xCB, 0x9A]
  | .res3E => [0xCB, 0x9B]
  | .res3H => [0xCB, 0x9C]
  | .res3L => [0xCB, 0x9D]
  | .res3MemHl => [0xCB, 0x9E]
  | .res3A => [0xCB, 0x9F]
  | .res4B => [0xCB, 0xA0]
  | .res4C => [0xCB, 0xA1]
  | .res4D => [0xCB, 0xA2]
  | .res4E => [0xCB, 0xA3]
  | .res4H => [0xCB, 0xA4]
  | .res4L => [0xCB, 0xA5]
  | .res4MemHl => [0xCB, 0xA6]
  | .res4A => [0xCB, 0xA7]
  | .res5B => [0xCB, 0xA8]
  | .res5C => [0xCB, 0xA9]
  | .res5D => [0xCB, 0xAA]
  | .res5E => [0xCB, 0xAB]
  | .res5H => [0xCB, 0xAC]
  | .res5L => [0xCB, 0xAD]
  | .res5MemHl => [0xCB, 0xAE]
  | .res5A => [0xCB, 0xAF]
  | .res6B => [0xCB, 0xB0]
  | .res6C => [0xCB, 0xB1]
  | .res6D => [0xCB, 0xB2]
  | .res6E => [0xCB, 0xB3]
  | .res6H => [0xCB, 0xB4]
  | .res6L => [0xCB, 0xB5]
  | .res6MemHl => [0xCB, 0xB6]
  | .res6A => [0xCB, 0xB7]
  | .res7B => [0xCB, 0xB8]
  | .res7C => [0xCB, 0xB9]
  | .res7D => [0xCB, 0xBA]
  | .res7E => [0xCB, 0xBB]
  | .res7H => [0xCB, 0xBC]
  | .res7L => [0xCB, 0xBD]
  | .res7MemHl => [0xCB, 0xBE]
  | .res7A => [0xCB, 0xBF]
  | .set0B => [0xCB, 0xC0]
  | .set0C => [0xCB, 0xC1]
  | .set0D => [0xCB, 0xC2]
  | .set0E => [0xCB, 0xC3]
  | .set0H => [0xCB, 0xC4]
  | .set0L => [0xCB, 0xC5]
  | .set0MemHl => [0xCB, 0xC6]
  | .set0A => [0xCB, 0xC7]
  | .set1B => [0xCB, 0xC8]
  | .set1C => [0xCB, 0xC9]
  | .set1D => [0xCB, 0xCA]
  | .set1E => [0xCB, 0xCB]
  | .set1H => [0xCB, 0xCC]
  | .set1L => [0xCB, 0xCD]
  | .set1MemHl => [0xCB, 0xCE]
  | .set1A => [0xCB, 0xCF]
  | .set2B => [0xCB, 0xD0]
  | .set2C => [0xCB, 0xD1]
  | .set2D => [0xCB, 0xD2]
  | .set2E => [0xCB, 0xD3]
  | .set2H => [0xCB, 0xD4]
  | .set2L => [0xCB, 0xD5]
  | .set2MemHl => [0xCB, 0xD6]
  | .set2A => [0xCB, 0xD7]
  | .set3B => [0xCB, 0xD8]
  | .set3C => [0xCB, 0xD9]
  | .set3D => [0xCB, 0xDA]
  | .set3E => [0xCB, 0xDB]
  | .set3H => [0xCB, 0xDC]
  | .set3L => [0xCB, 0xDD]
  | .set3MemHl => [0xCB, 0xDE]
  | .set3A => [0xCB, 0xDF]
  | .set4B => [0xCB, 0xE0]
  | .set4C => [0xCB, 0xE1]
  | .set4D => [0xCB, 0xE2]
  | .set4E => [0xCB, 0xE3]
  | .set4H => [0xCB, 0xE4]
  | .set4L => [0xCB, 0xE5]
  | .set4MemHl => [0xCB, 0xE6]
  | .set4A => [0xCB, 0xE7]
  | .set5B => [0xCB, 0xE8]
  | .set5C => [0xCB, 0xE9]
  | .set5D => [0xCB, 0xEA]
  | .set5E => [0xCB, 0xEB]
  | .set5H => [0xCB, 0xEC]
  | .set5L => [0xCB, 0xED]
  | .set5MemHl => [0xCB, 0xEE]
  | .set5A => [0xCB, 0xEF]
  | .set6B => [0xCB, 0xF0]
  | .set6C => [0xCB, 0xF1]
  | .set6D => [0xCB, 0xF2]
  | .set6E => [0xCB, 0xF3]
  | .set6H => [0xCB, 0xF4]
  | .set6L => [0xCB, 0xF5]
  | .set6MemHl => [0xCB, 0xF6]
  | .set6A => [0xCB, 0xF7]
  | .set7B => [0xCB, 0xF8]
  | .set7C => [0xCB, 0xF9]
  | .set7D => [0xCB, 0xFA]
  | .set7E => [0xCB, 0xFB]
  | .set7H => [0xCB, 0xFC]
  | .set7L => [0xCB, 0xFD]
  | .set7MemHl => [0xCB, 0xFE]
  | .set7A => [0xCB, 0xFF]

end Sys2Proof
end

