-- ==== Sys2Proof/Machine/State.lean ====
section
/-! DEFINITION. The machine's state as plain data: everything spec/10_state.md gives the machine (R30 to R71), the
cartridge and the boot image the launch handed over (R9), and the Input device of R440; the reasons a step can stop; and
the state after reset (R70) with the other launch profile (R702). Operations are in the files that import this one. -/

namespace Sys2Proof.Machine

/-- A sparse array of `w`-bit cells by index, in one canonical form: indexes strictly rising, and no cell equal to what
an unlisted index reads as. -/
abbrev Cells (w : Nat) := List (Nat × BitVec w)

/-- A memory array: `Host.Cell` is `Nat × BitVec 8`. -/
abbrev Memory := List Host.Cell

/-- The frame buffer (R67): shade 0 to 3 at index `160 * row + column`; an unlisted pixel is shade 0. -/
abbrev Frame := Cells 2

/-- The faults of R422. -/
inductive Fault where
  /-- F1, raised by a bus write to 0x4000 to 0x7FFF that leaves MBC1 in RAM-banking mode, with RAM, and a RAM bank index
  at or above RAM_BANKS (R113); it records the index and RAM_BANKS. The spec asks for it: safe. -/
  | mbcRamBankOutOfRange (bank ramBanks : Nat)
  deriving DecidableEq, Repr

/-- The refusals of R422, and the host's `notModelled`. -/
inductive Refusal where
  /-- Raised by no arm of this model: every instruction has its meaning. Safe. -/
  | notModelled (mnemonic : String)
  /-- X1, raised by executing opcode 0x10 (R359): the spec gives STOP no meaning. It records the STOP's address. Safe. -/
  | stopInstruction (address : Word)
  /-- X2, raised at launch for a cartridge kind other than ROM-only or MBC1 (R10). Safe. -/
  | unsupportedCartridge (typeByte : Byte)
  /-- X3, raised at launch for a fixed bank buffer longer than 0x4000 bytes (R10); of several, the first in the request's list
  gives the length (log entry 17). Safe. -/
  | oversizedBank (length : Nat)
  /-- Raised at launch for profile BOOT without a boot image (R700); R422 gives it no name, the model does (log entry 17). Safe. -/
  | bootImageMissing
  deriving DecidableEq, Repr

/-- The CPU's registers (R32). -/
structure Regs where
  a : Byte
  f : Byte
  b : Byte
  c : Byte
  d : Byte
  e : Byte
  h : Byte
  l : Byte
  sp : Word
  pc : Word
  deriving DecidableEq, Repr

/-- The MBC1 controller's registers (R53). `ramBanking` is bankingMode: false is 0, Default; true is 1, RAMBanking. -/
structure Mbc1 where
  ramEnabled : Bool
  bankLow : BitVec 5
  bankHigh : BitVec 2
  ramBanking : Bool
  deriving DecidableEq, Repr

/-- The cartridge: the launch parameters CART_KIND, ROM_BANKS, RAM_BANKS, HAS_RAM and CART (R9, R51), the controller's
registers (R53; the ROM-only controller has none, R52) and the cartridge RAM CRAM (R53). -/
structure Cartridge where
  kind : CartKind
  romBanks : Nat
  ramBanks : Nat
  hasRam : Bool
  rom : Memory
  mbc : Mbc1
  cram : Memory
  deriving DecidableEq, Repr

/-- The Timer (R54). -/
structure Timer where
  divCounter : Word
  tima : Byte
  tma : Byte
  tac : BitVec 3
  prevAnd : Bool
  reloadCountdown : Nat
  deriving DecidableEq, Repr

/-- The four PPU modes (R17, R56). -/
inductive Mode where
  | hblank | vblank | oamSearch | drawing
  deriving DecidableEq, Repr

/-- The four fetcher states (R64). -/
inductive FetchState where
  | getTile | getTileDataLow | getTileDataHigh | push
  deriving DecidableEq, Repr

/-- A copy of a selected OAM entry (R63, R522). -/
structure OamEntry where
  y : Byte
  x : Byte
  tile : Byte
  flags : Byte
  index : Nat
  deriving DecidableEq, Repr

/-- The background fetcher (R64). -/
structure BgFetcher where
  state : FetchState
  timer : Fin 2
  fetchX : Byte
  tileIndex : Byte
  dataLow : Byte
  dataHigh : Byte
  bugPending : Bool
  deriving DecidableEq, Repr

/-- The sprite fetcher (R64). -/
structure SpriteFetcher where
  active : Bool
  state : FetchState
  timer : Fin 2
  entry : Option OamEntry
  dataLow : Byte
  dataHigh : Byte
  deriving DecidableEq, Repr

/-- An entry of the sprite FIFO (R64): `palette` true selects OBP1 (R48). -/
structure SpritePixel where
  colorIndex : BitVec 2
  priority : Bool
  palette : Bool
  deriving DecidableEq, Repr

/-- The PPU: registers (R55 to R62), sequencer (R63), pixel pipeline (R64), window (R65), DMA engine (R66), output (R67),
and its two memories VRAM and OAM (R47). `statSel` is STAT[6:3] and `coincidence` STAT[2] (R56); `mode` is STAT[1:0]. -/
structure Ppu where
  lcdc : Byte
  statSel : BitVec 4
  coincidence : Bool
  mode : Mode
  scy : Byte
  scx : Byte
  ly : Byte
  lyc : Byte
  dmaReg : Byte
  bgp : Byte
  obp0 : Byte
  obp1 : Byte
  wy : Byte
  wx : Byte
  lineCycles : Nat
  frameCounter : Nat
  oamBuffer : List OamEntry
  oamCount : Nat
  bg : BgFetcher
  spr : SpriteFetcher
  bgFifo : List (BitVec 2)
  sprFifo : List SpritePixel
  pixelX : Nat
  discard : Nat
  windowActiveLine : Bool
  windowYTriggered : Bool
  windowLine : Int
  dmaActive : Bool
  dmaSource : Word
  dmaIndex : Nat
  vram : Memory
  oam : Memory
  frame : Frame
  framesPresented : Nat
  deriving DecidableEq, Repr

/-- The machine's state. -/
structure State where
  /-- The Clock (R30). -/
  cycles : BitVec 64
  /-- The PPU's watermark (R31). -/
  ppuLast : BitVec 64
  /-- The Timer's watermark (R31). -/
  timerLast : BitVec 64
  /-- The CPU registers (R32). -/
  regs : Regs
  /-- IME (R38). -/
  ime : Bool
  /-- The pending effect of EI, 0 to 2 (R39). -/
  imeDelay : Nat
  /-- The halted state (R40). -/
  halted : Bool
  /-- The next opcode fetch must not advance pc (R41). -/
  haltBug : Bool
  /-- An illegal opcode was executed (R42). -/
  locked : Bool
  /-- IF, its five stored bits (R43). -/
  iflag : BitVec 5
  /-- IE (R44). -/
  ie : Byte
  /-- WRAM (R45), by offset from 0xC000. -/
  wram : Memory
  /-- HRAM (R46), by offset from 0xFF80. -/
  hram : Memory
  /-- GEN (R49), by full address. -/
  gen : Memory
  /-- The boot ROM image BOOT (R9, R703), by address. -/
  boot : Memory
  /-- The boot ROM is mapped (R50). -/
  bootMapped : Bool
  /-- The cartridge (R51 to R53). -/
  cart : Cartridge
  /-- The Timer (R54). -/
  timer : Timer
  /-- The PPU (R47, R55 to R67). -/
  ppu : Ppu
  /-- The Input device's state (R68, R440). -/
  joypad : Joypad
  /-- The parameter JOYPAD (R9, R440, R441), handed over by the launch. -/
  joypadParam : JoypadParam
  /-- The fault mark (R69, R420). -/
  faulted : Option Fault
  /-- The refusal mark (R69, R421). -/
  refused : Option Refusal
  deriving DecidableEq, Repr

/-- The launch parameters an accepted launch hands to the machine (R9, R700), the images as memories. -/
structure Launch where
  kind : CartKind
  romBanks : RomBanks
  ramBanks : Nat
  hasRam : Bool
  rom : Memory
  boot : Memory
  joypad : JoypadParam
  deriving DecidableEq, Repr

/-- The draw INIT (R9, R70): the initial contents of everything whose reset value is "any value". -/
structure Init where
  a : Byte
  b : Byte
  c : Byte
  d : Byte
  e : Byte
  h : Byte
  l : Byte
  sp : Word
  wram : Memory
  hram : Memory
  gen : Memory
  vram : Memory
  oam : Memory
  cram : Memory
  deriving DecidableEq, Repr

/-- The MBC1 registers at reset (R53, R70). -/
def Mbc1.reset : Mbc1 :=
  { ramEnabled := false, bankLow := 0, bankHigh := 0, ramBanking := false }

/-- The Timer at reset (R54, R70). -/
def Timer.reset : Timer :=
  { divCounter := 0, tima := 0, tma := 0, tac := 0, prevAnd := false, reloadCountdown := 0 }

/-- The background fetcher as every pipeline reset leaves it (R560). -/
def BgFetcher.restart : BgFetcher :=
  { state := .getTile, timer := 0, fetchX := 0, tileIndex := 0, dataLow := 0, dataHigh := 0, bugPending := true }

/-- The sprite fetcher as every pipeline reset leaves it (R560). -/
def SpriteFetcher.idle : SpriteFetcher :=
  { active := false, state := .getTile, timer := 0, entry := none, dataLow := 0, dataHigh := 0 }

/-- The PPU at power-on (R55 to R67, R70), with the drawn contents of its two memories. -/
def Ppu.reset (vram oam : Memory) : Ppu :=
  { lcdc := 0x00, statSel := 0, coincidence := false, mode := .hblank, scy := 0x00, scx := 0x00, ly := 0x00, lyc := 0x00,
    dmaReg := 0x00, bgp := 0x00, obp0 := 0x00, obp1 := 0x00, wy := 0x00, wx := 0x00, lineCycles := 0, frameCounter := 0,
    oamBuffer := [], oamCount := 0, bg := BgFetcher.restart, spr := SpriteFetcher.idle, bgFifo := [], sprFifo := [],
    pixelX := 0, discard := 0, windowActiveLine := false, windowYTriggered := false, windowLine := -1, dmaActive := false,
    dmaSource := 0, dmaIndex := 0, vram := vram, oam := oam, frame := [], framesPresented := 0 }

/-- The Input device before any write or press: select state 0, nothing pressed (DESIGN CHOICE, log entry 5). -/
def Joypad.reset : Joypad :=
  { sel := 0, pressed := { right := false, left := false, up := false, down := false, a := false, b := false,
                           select := false, start := false } }

/-- Profile BOOT (R70, R703): power-on with the boot ROM mapped. -/
def State.bootProfile (p : Launch) (i : Init) : State :=
  { cycles := 0, ppuLast := 0, timerLast := 0,
    regs := { a := i.a, f := 0x00, b := i.b, c := i.c, d := i.d, e := i.e, h := i.h, l := i.l, sp := i.sp, pc := 0x0000 },
    ime := false, imeDelay := 0, halted := false, haltBug := false, locked := false, iflag := 0, ie := 0x00,
    wram := i.wram, hram := i.hram, gen := i.gen, boot := p.boot, bootMapped := true,
    cart := { kind := p.kind, romBanks := p.romBanks.val, ramBanks := p.ramBanks, hasRam := p.hasRam, rom := p.rom,
              mbc := Mbc1.reset, cram := i.cram },
    timer := Timer.reset, ppu := Ppu.reset i.vram i.oam, joypad := Joypad.reset,
    joypadParam := p.joypad, faulted := none, refused := none }

/-- Profile POST_BOOT (R702): the state at cartridge entry, for launches without a boot ROM. A launch with this profile that
carries a boot image all the same starts with `bootMapped` false, as R702's table has it, where R50 would have it true:
DESIGN CHOICE, unsafe, log entry 16. -/
def State.postBootProfile (p : Launch) (i : Init) : State :=
  { State.bootProfile p i with
    regs := { a := 0x01, f := 0xB0, b := 0x00, c := 0x13, d := 0x00, e := 0xD8, h := 0x01, l := 0x4D, sp := 0xFFFE,
              pc := 0x0100 },
    bootMapped := false,
    ppu := { Ppu.reset i.vram i.oam with lcdc := 0x91, bgp := 0xFC, mode := .oamSearch, ly := 0x00, lineCycles := 0 } }

/-- The default JOYPAD of R440 and R441: nothing departs from it. -/
def JoypadParam.standard : JoypadParam :=
  { reads := [], writes := [], requests := [] }

/-- The launch parameters `State.reset` uses: a ROM-only cartridge of two banks with no RAM, no byte of its image or of
the boot image listed, and the default JOYPAD (DESIGN CHOICE, log entry 4: the spec gives these parameters no value). -/
def Launch.unlisted : Launch :=
  { kind := .romOnly, romBanks := ⟨2, Nat.le_refl 2⟩, ramBanks := 0, hasRam := false, rom := [], boot := [],
    joypad := JoypadParam.standard }

/-- The draw `State.reset` uses: zero registers and nothing listed (DESIGN CHOICE, log entries 2 and 3). -/
def Init.zero : Init :=
  { a := 0, b := 0, c := 0, d := 0, e := 0, h := 0, l := 0, sp := 0, wram := [], hram := [], gen := [], vram := [],
    oam := [], cram := [] }

/-- The machine right after reset: power-on, profile BOOT (R70, R703). -/
def State.reset : State :=
  State.bootProfile Launch.unlisted Init.zero

end Sys2Proof.Machine
end

