-- ==== Sys2Proof/Machine/Mem.lean ====
section
/-! DEFINITION. The operations of the sparse arrays (memories and the frame), each in the canonical form State.lean names,
and the byte and field helpers of spec/00_scope.md R11 and R12. -/

namespace Sys2Proof.Machine

/-- The cell at index `k`; `d` is what an unlisted index reads as. -/
def cellGet {w : Nat} (d : BitVec w) (m : Cells w) (k : Nat) : BitVec w :=
  match m with
  | [] => d
  | (j, v) :: rest => if j = k then v else cellGet d rest k

/-- The cells after `v` is stored at index `k`: the one entry of `k`, if any, is replaced, or removed when `v` is what an
unlisted index reads as. -/
def cellSet {w : Nat} (d : BitVec w) (m : Cells w) (k : Nat) (v : BitVec w) : Cells w :=
  match m with
  | [] => if v = d then [] else [(k, v)]
  | (j, u) :: rest =>
    if j < k then (j, u) :: cellSet d rest k v
    else if j = k then (if v = d then rest else (k, v) :: rest)
    else (if v = d then (j, u) :: rest else (k, v) :: (j, u) :: rest)

/-- Canonical form with every index at or above `lo` and below `size`. -/
def cellsWfFrom {w : Nat} (d : BitVec w) (size lo : Nat) (m : Cells w) : Bool :=
  match m with
  | [] => true
  | (k, v) :: rest => decide (lo ≤ k) && decide (k < size) && decide (v ≠ d) && cellsWfFrom d size (k + 1) rest

/-- Canonical form of an array of `size` cells. -/
def cellsWf {w : Nat} (d : BitVec w) (size : Nat) (m : Cells w) : Bool :=
  cellsWfFrom d size 0 m

/-- The canonical form of a memory of `size` bytes whose unlisted bytes read as `d`. -/
def Memory.wf (d : Byte) (size : Nat) (m : Memory) : Bool :=
  cellsWf d size m

/-- A byte of RAM, VRAM, OAM, GEN or the boot image. -/
def memGet (m : Memory) (k : Nat) : Byte :=
  cellGet Config.unwritten m k

/-- Stores a byte of RAM, VRAM, OAM or GEN. -/
def memSet (m : Memory) (k : Nat) (v : Byte) : Memory :=
  cellSet Config.unwritten m k v

/-- A byte of the cartridge image; an index the image does not list, as any index beyond its length, reads 0xFF (R100, R115). -/
def romGet (m : Memory) (k : Nat) : Byte :=
  cellGet Config.openBus m k

/-- The canonical form of an image whose bytes from index `k` on are `bs`. -/
def imageFrom (d : Byte) (k : Nat) (bs : List Byte) : Memory :=
  match bs with
  | [] => []
  | b :: rest => if b = d then imageFrom d (k + 1) rest else (k, b) :: imageFrom d (k + 1) rest

/-- The high byte of a word (R33). -/
def hiByte (v : Word) : Byte := (v >>> 8).setWidth 8

/-- The low byte of a word (R33). -/
def loByte (v : Word) : Byte := v.setWidth 8

/-- `(h << 8) | l` (R12). -/
def wordOf (h l : Byte) : Word := h ++ l

/-- `sext_16` (R12, R158). -/
def sext16 (e : Byte) : Word := e.signExtend 16

/-- `ceil(log2(n))`, 0 for 0 and 1 (R112, R114). -/
def ceilLog2 (n : Nat) : Nat :=
  if n ≤ 1 then 0 else Nat.log2 (n - 1) + 1

/-- The interrupt sources (R400), in priority order. -/
inductive IrqSource where
  | vblank | stat | timer | serial | joypad
  deriving DecidableEq, Repr

/-- A set of interrupt requests, by IF bit. -/
abbrev Irq := BitVec 5

/-- The IF bit of a source (R43, R400), as a set of one. -/
def irqBit (k : IrqSource) : Irq :=
  match k with
  | .vblank => 0b00001
  | .stat => 0b00010
  | .timer => 0b00100
  | .serial => 0b01000
  | .joypad => 0b10000

/-- `requestInterrupt` for a set of sources (R401): sets their IF bits and nothing else. -/
def State.request (s : State) (r : Irq) : State :=
  { s with iflag := s.iflag ||| r }

end Sys2Proof.Machine
end

