-- ==== Sys2Proof/Machine/Cart.lean ====
section
/-! DEFINITION. The two cartridge controllers (spec/20_memory.md R100 to R116). -/

namespace Sys2Proof.Machine

/-- `romBank()` (R112): the bank of 0x4000 to 0x7FFF. -/
def Cartridge.romBank (c : Cartridge) : Nat :=
  let romBits := ceilLog2 c.romBanks
  let low := if c.mbc.bankLow.toNat = 0 then 1 else c.mbc.bankLow.toNat
  if romBits > 5 then
    let high := if c.mbc.ramBanking then 0 else c.mbc.bankHigh.toNat
    high * 32 + low
  else
    let b := low % 2 ^ romBits
    if b = 0 then 1 else b

/-- `ramBank()` (R114): the bank of cartridge RAM. -/
def Cartridge.ramBank (c : Cartridge) : Nat :=
  if c.mbc.ramBanking && c.hasRam then c.mbc.bankHigh.toNat % 2 ^ ceilLog2 c.ramBanks else 0

/-- The CRAM index of a bus address in 0xA000 to 0xBFFF (R115, R116). -/
def Cartridge.cramIndex (c : Cartridge) (a : Nat) : Nat :=
  c.ramBank * Config.ramBankSize + (a - 0xA000)

/-- The size of CRAM (R53). -/
def Cartridge.cramSize (c : Cartridge) : Nat :=
  c.ramBanks * Config.ramBankSize

/-- `CRAM[k]`; beyond its size the spec states no value (log entry 8). -/
def Cartridge.cramGet (c : Cartridge) (k : Nat) : Byte :=
  if k < c.cramSize then memGet c.cram k else Config.cramBeyond k

/-- `CRAM[k] <- v`; beyond its size there is no storage (log entry 8). -/
def Cartridge.cramSet (c : Cartridge) (k : Nat) (v : Byte) : Cartridge :=
  if k < c.cramSize then { c with cram := memSet c.cram k v } else c

/-- `Cart.read` of the ROM-only controller (R100). -/
def Cartridge.readRomOnly (c : Cartridge) (a : Nat) : Byte :=
  if a ≤ 0x7FFF then romGet c.rom a else Config.openBus

/-- `Cart.read` of MBC1 (R115). -/
def Cartridge.readMbc1 (c : Cartridge) (a : Nat) : Byte :=
  if a ≤ 0x3FFF then romGet c.rom a
  else if a ≤ 0x7FFF then romGet c.rom (c.romBank * Config.romBankSize + (a - 0x4000))
  else if c.hasRam && c.mbc.ramEnabled then c.cramGet (c.cramIndex a)
  else Config.openBus

/-- `Cart.read` at a bus address in 0x0000 to 0x7FFF or 0xA000 to 0xBFFF (R100, R115). -/
def Cartridge.read (c : Cartridge) (a : Nat) : Byte :=
  match c.kind with
  | .romOnly => c.readRomOnly a
  | .mbc1 => c.readMbc1 a

/-- The MBC1 registers and CRAM after a write (R110, R111, R113, R116). -/
def Cartridge.writeMbc1 (c : Cartridge) (a : Nat) (v : Byte) : Cartridge :=
  if a ≤ 0x1FFF then { c with mbc := { c.mbc with ramEnabled := v == 0x0A } }
  else if a ≤ 0x3FFF then { c with mbc := { c.mbc with bankLow := v.setWidth 5 } }
  else if a ≤ 0x5FFF then { c with mbc := { c.mbc with bankHigh := v.setWidth 2 } }
  else if a ≤ 0x7FFF then { c with mbc := { c.mbc with ramBanking := v.getLsbD 0 } }
  else if c.hasRam && c.mbc.ramEnabled then c.cramSet (c.cramIndex a) v
  else c

/-- `Cart.write` (R101: every ROM-only write is a no-op; R110 to R116 for MBC1), the storage part. -/
def Cartridge.write (c : Cartridge) (a : Nat) (v : Byte) : Cartridge :=
  match c.kind with
  | .romOnly => c
  | .mbc1 => c.writeMbc1 a v

/-- The check R113 makes after a write to 0x4000 to 0x7FFF, on the cartridge as the write leaves it. -/
def Cartridge.bankFault (c : Cartridge) (a : Nat) : Option Fault :=
  match c.kind with
  | .romOnly => none
  | .mbc1 =>
    if 0x4000 ≤ a ∧ a ≤ 0x7FFF ∧ c.mbc.ramBanking = true ∧ c.hasRam = true ∧ c.ramBanks ≤ c.ramBank then
      some (.mbcRamBankOutOfRange c.ramBank c.ramBanks)
    else none

end Sys2Proof.Machine
end

