-- ==== Sys2Proof/Machine/Input.lean ====
section
/-! DEFINITION. The Input device (spec/60_exceptions.md R440, R441): the parameter JOYPAD read from its tables, with the
default JOYPAD where they list nothing; its port at 0xFF00; and the two Host actions, which happen between system steps
(spec/20_memory.md R85). -/

namespace Sys2Proof.Machine

/-- The buttons after `k` is set to `v`. -/
def putButton (p : Buttons) (k : Button) (v : Bool) : Buttons :=
  match k with
  | .right => { p with right := v }
  | .left => { p with left := v }
  | .up => { p with up := v }
  | .down => { p with down := v }
  | .a => { p with a := v }
  | .b => { p with b := v }
  | .select => { p with select := v }
  | .start => { p with start := v }

/-- Four lines as bits 3 to 0, each 0 where a selected button is pressed. -/
def activeLow (b3 b2 b1 b0 : Bool) : BitVec 4 :=
  BitVec.ofBool (!b3) ++ BitVec.ofBool (!b2) ++ BitVec.ofBool (!b1) ++ BitVec.ofBool (!b0)

/-- `low` (R440): bit i is 0 when button i of a selected group is pressed; `sel[0] = 0` selects the directions (Right, Left,
Up, Down), `sel[1] = 0` the actions (A, B, Select, Start). -/
def joypadLow (j : Joypad) : BitVec 4 :=
  let dir := !j.sel.getLsbD 0
  let act := !j.sel.getLsbD 1
  let p := j.pressed
  activeLow ((dir && p.down) || (act && p.start)) ((dir && p.up) || (act && p.select))
    ((dir && p.left) || (act && p.b)) ((dir && p.right) || (act && p.a))

/-- The default `read()` (R440): `0xC0 | (sel << 4) | low`, of the two select bits. -/
def defaultRead (j : Joypad) : Byte :=
  (0b11 : BitVec 2) ++ j.sel.setWidth 2 ++ joypadLow j

/-- The default `write(v)` (R440): `sel <- v[5:4]`. -/
def defaultSelect (v : Byte) : Byte :=
  (v >>> 4) &&& 3

/-- The default interrupt policy (R441): a press that turns a bit of `low` from 1 to 0. -/
def defaultRequest (j : Joypad) (e : InputEvent) : Bool :=
  match e with
  | .press k => joypadLow j &&& ~~~ joypadLow { j with pressed := putButton j.pressed k true } != 0
  | .release _ => false
  | .write _ => false

/-- JOYPAD's `read()` (R440). -/
def joypadRead (p : JoypadParam) (j : Joypad) : Byte :=
  (p.reads.lookup j).getD (defaultRead j)

/-- The select state JOYPAD's `write(v)` leaves (R440). -/
def joypadSelect (p : JoypadParam) (j : Joypad) (v : Byte) : Byte :=
  (p.writes.lookup (j, v)).getD (defaultSelect v)

/-- JOYPAD's interrupt policy (R441): whether the event requests Joypad. -/
def joypadRequest (p : JoypadParam) (j : Joypad) (e : InputEvent) : Bool :=
  (p.requests.lookup (j, e)).getD (defaultRequest j e)

/-- The device after an event (R440). -/
def joypadAfter (p : JoypadParam) (j : Joypad) (e : InputEvent) : Joypad :=
  match e with
  | .press k => { j with pressed := putButton j.pressed k true }
  | .release k => { j with pressed := putButton j.pressed k false }
  | .write v => { j with sel := joypadSelect p j v }

/-- An event at the Input device (R440), with the request its policy makes (R441). -/
def State.inputEvent (s : State) (e : InputEvent) : State :=
  { s with joypad := joypadAfter s.joypadParam s.joypad e }.request
    (if joypadRequest s.joypadParam s.joypad e then irqBit .joypad else 0)

/-- `press` (R440). -/
def State.press (s : State) (k : Button) : State :=
  s.inputEvent (.press k)

/-- `release` (R440). -/
def State.release (s : State) (k : Button) : State :=
  s.inputEvent (.release k)

end Sys2Proof.Machine
end

