-- ==== Sys2Proof/Machine/Pipeline.lean ====
section
/-! DEFINITION. The pixel pipeline of the Drawing mode (spec/63_ppu_pipeline.md R560 to R590): fetchers, FIFOs, window and
multiplexer, one T-cycle at a time. -/

namespace Sys2Proof.Machine

/-- `VRAM[offset]`, the PPU's own ungated read (R14, R541). -/
def Ppu.vramAt (p : Ppu) (offset : Nat) : Byte :=
  memGet p.vram offset

/-- The sprite height h (R522, R573): LCDC[2]. -/
def Ppu.objHeight (p : Ppu) : Nat :=
  if p.lcdc.getLsbD 2 then 16 else 8

/-- `ResetPipeline` (R560). -/
def Ppu.resetPipeline (p : Ppu) : Ppu :=
  { p with bg := BgFetcher.restart, spr := SpriteFetcher.idle, bgFifo := [], sprFifo := [], pixelX := 0,
           discard := p.scx.toNat % 8, windowActiveLine := false }

/-- The VRAM offset of the tile map entry the background fetcher reads (R563). -/
def Ppu.tileMapOffset (p : Ppu) : Nat :=
  if p.windowActiveLine then
    let base := if p.lcdc.getLsbD 6 then 0x1C00 else 0x1800
    base + 32 * ((p.windowLine / 8) % 32).toNat + p.bg.fetchX.toNat % 32
  else
    let base := if p.lcdc.getLsbD 3 then 0x1C00 else 0x1800
    base + 32 * ((p.ly + p.scy).toNat / 8) + (p.scx.toNat / 8 + p.bg.fetchX.toNat) % 32

/-- `TileDataAddr(t) - 0x8000` (R567): unsigned from 0x8000, or signed from 0x9000. -/
def Ppu.tileDataOffset (p : Ppu) (t : Byte) : Nat :=
  if p.lcdc.getLsbD 4 then 16 * t.toNat else (0x1000 + 16 * t.toInt).toNat

/-- The row of the tile the background fetcher reads (R564). -/
def Ppu.tileRow (p : Ppu) : Nat :=
  if p.windowActiveLine then (p.windowLine % 8).toNat else (p.ly + p.scy).toNat % 8

/-- The GetTile action (R563). -/
def Ppu.bgGetTile (p : Ppu) : Ppu :=
  { p with bg := { p.bg with tileIndex := p.vramAt p.tileMapOffset, state := .getTileDataLow, timer := 0 } }

/-- The GetTileDataLow action (R564). -/
def Ppu.bgGetLow (p : Ppu) : Ppu :=
  { p with bg := { p.bg with dataLow := p.vramAt (p.tileDataOffset p.bg.tileIndex + 2 * p.tileRow),
                             state := .getTileDataHigh, timer := 0 } }

/-- The GetTileDataHigh action and the double-fetch bug (R565). -/
def Ppu.bgGetHigh (p : Ppu) : Ppu :=
  { p with bg := { p.bg with dataHigh := p.vramAt (p.tileDataOffset p.bg.tileIndex + 2 * p.tileRow + 1),
                             state := if p.bg.bugPending then .getTile else .push,
                             bugPending := false, timer := 0 } }

/-- The colour index of pixel `i` of a row, 0 leftmost (R568). -/
def pixelColor (low high : Byte) (i : Nat) : BitVec 2 :=
  BitVec.ofBool (high.getLsbD (7 - i)) ++ BitVec.ofBool (low.getLsbD (7 - i))

/-- The eight colour indices of a row, leftmost first (R568). -/
def rowColors (low high : Byte) : List (BitVec 2) :=
  [0, 1, 2, 3, 4, 5, 6, 7].map (pixelColor low high)

/-- `BgPush` (R566). -/
def Ppu.bgPush (p : Ppu) : Ppu :=
  if p.bgFifo.isEmpty then
    { p with bgFifo := rowColors p.bg.dataLow p.bg.dataHigh,
             bg := { p.bg with fetchX := p.bg.fetchX + 1, state := .getTile } }
  else p

/-- `BgStep` (R562). -/
def Ppu.bgStep (p : Ppu) : Ppu :=
  match p.bg.state with
  | .push => p.bgPush
  | .getTile => if p.bg.timer = 0 then { p with bg := { p.bg with timer := 1 } } else p.bgGetTile
  | .getTileDataLow => if p.bg.timer = 0 then { p with bg := { p.bg with timer := 1 } } else p.bgGetLow
  | .getTileDataHigh => if p.bg.timer = 0 then { p with bg := { p.bg with timer := 1 } } else p.bgGetHigh

/-- `SpriteDue` (R570). -/
def Ppu.spriteDue (p : Ppu) : Option OamEntry :=
  p.oamBuffer.find? (fun e => decide (e.x.toNat = p.pixelX + 8))

/-- `StartSpriteFetch(e)` (R570). -/
def Ppu.startSpriteFetch (p : Ppu) (e : OamEntry) : Ppu :=
  { p with spr := { p.spr with active := true, state := .getTile, timer := 0, entry := some e } }

/-- The VRAM offset of the low byte of the sprite row being fetched (R573). -/
def Ppu.spriteRowOffset (p : Ppu) (e : OamEntry) : Nat :=
  let h := p.objHeight
  let row := (((p.ly.toNat : Int) + 16 - e.y.toNat) % h).toNat
  let row' := if e.flags.getLsbD 6 then (h - 1) - row else row
  let t := if h = 16 then (e.tile &&& 0xFE).toNat else e.tile.toNat
  16 * t + 2 * row'

/-- The eight pixels of a fetched sprite row, X flip applied (R574). -/
def spriteRow (low high : Byte) (e : OamEntry) : List SpritePixel :=
  let cs := rowColors low high
  (if e.flags.getLsbD 5 then cs.reverse else cs).map
    (fun c => { colorIndex := c, priority := e.flags.getLsbD 7, palette := e.flags.getLsbD 4 })

/-- The merge of a fetched row into the sprite FIFO, position by position (R574). -/
def mergeSprites (fifo new : List SpritePixel) : List SpritePixel :=
  match fifo, new with
  | [], ns => ns
  | fs, [] => fs
  | f :: fs, n :: ns => (if f.colorIndex = 0 then n else f) :: mergeSprites fs ns

/-- The second T-cycle of a sprite fetcher state (R572, R573): its action. -/
def Ppu.spriteAction (p : Ppu) (e : OamEntry) : Ppu :=
  match p.spr.state with
  | .getTile => { p with spr := { p.spr with state := .getTileDataLow, timer := 0 } }
  | .getTileDataLow =>
    { p with spr := { p.spr with dataLow := p.vramAt (p.spriteRowOffset e), state := .getTileDataHigh, timer := 0 } }
  | .getTileDataHigh =>
    { p with spr := { p.spr with dataHigh := p.vramAt (p.spriteRowOffset e + 1), state := .push, timer := 0 } }
  | .push =>
    { p with sprFifo := mergeSprites p.sprFifo (spriteRow p.spr.dataLow p.spr.dataHigh e),
             spr := { p.spr with active := false } }

/-- `SpriteStep` (R571): GetTile, GetTileDataLow and GetTileDataHigh take two T-cycles, Push one. An active fetch always
has an entry (R570). -/
def Ppu.spriteStep (p : Ppu) : Ppu :=
  match p.spr.entry with
  | none => p
  | some e =>
    if p.spr.state = .push then p.spriteAction e
    else if p.spr.timer = 0 then { p with spr := { p.spr with timer := 1 } }
    else p.spriteAction e

/-- The window Y latch, the first half of `WindowCheck` (R575). -/
def Ppu.windowLatch (p : Ppu) : Ppu :=
  { p with windowYTriggered := p.windowYTriggered || p.ly == p.wy }

/-- The activation condition, the second half of `WindowCheck` (R575), on the latched PPU. -/
def Ppu.windowDue (p : Ppu) : Bool :=
  !p.windowActiveLine && p.lcdc.getLsbD 5 && p.windowYTriggered && decide ((p.wx.toNat : Int) - 7 ≤ p.pixelX)

/-- Window activation (R576). R576's assignment to `bg` lists neither tileIndex nor the data bytes, so they stay. -/
def Ppu.activateWindow (p : Ppu) : Ppu :=
  { p with windowActiveLine := true, windowLine := p.windowLine + 1, bgFifo := [], discard := 0,
           bg := { p.bg with state := .getTile, timer := 0, fetchX := 0, bugPending := true } }

/-- `WindowCheck` (R575). -/
def Ppu.windowCheck (p : Ppu) : Ppu :=
  let q := p.windowLatch
  if q.windowDue then q.activateWindow else q

/-- `SpriteTransparent(b, s)` (R588). -/
def Ppu.spriteTransparent (p : Ppu) (b : BitVec 2) (s : SpritePixel) : Bool :=
  s.colorIndex == 0 || !p.lcdc.getLsbD 1 || (s.priority && b != 0)

/-- The shade a palette gives a colour index (R61, R590). -/
def shade (palette : Byte) (i : BitVec 2) : BitVec 2 :=
  (palette >>> (2 * i.toNat)).setWidth 2

/-- `Composite(b, s)` (R585, R589). -/
def Ppu.composite (p : Ppu) (b : BitVec 2) (s : Option SpritePixel) : BitVec 2 :=
  if p.lcdc.getLsbD 0 then
    match s with
    | none => shade p.bgp b
    | some px =>
      if p.spriteTransparent b px then shade p.bgp b
      else shade (if px.palette then p.obp1 else p.obp0) px.colorIndex
  else 0

/-- The frame index of a row and a column (R67). -/
def frameIndex (row col : Nat) : Nat :=
  Config.screenWidth * row + col

/-- `EmitPixel` (R580), with the background pixel `b` popped and `rest` left in the background FIFO. -/
def Ppu.emitPixel (p : Ppu) (b : BitVec 2) (rest : List (BitVec 2)) : Ppu :=
  { p with bgFifo := rest, sprFifo := p.sprFifo.tail,
           frame := cellSet 0 p.frame (frameIndex p.ly.toNat p.pixelX) (p.composite b p.sprFifo.head?),
           pixelX := p.pixelX + 1 }

/-- The output of a Drawing T-cycle (R561 item 3): a discard (R581) or an emitted pixel (R580). -/
def Ppu.outputPixel (p : Ppu) : Ppu :=
  match p.bgFifo with
  | [] => p
  | b :: rest =>
    if 0 < p.discard then { p with bgFifo := rest, discard := p.discard - 1 } else p.emitPixel b rest

/-- The fetcher action of a Drawing T-cycle (R561 item 2). -/
def Ppu.fetchAction (p : Ppu) : Ppu :=
  if p.spr.active then p.spriteStep
  else if p.sprFifo.length < 8 then
    match p.spriteDue with
    | some e => (p.startSpriteFetch e).spriteStep
    | none => p.bgStep
  else p.bgStep

/-- `DrawTick` (R561). -/
def Ppu.drawTick (p : Ppu) : Ppu :=
  let q := p.windowCheck.fetchAction
  if q.spr.active then q else q.outputPixel

end Sys2Proof.Machine
end

