-- ==== Sys2Proof/Machine/Ppu.lean ====
section
/-! DEFINITION. The PPU's mode sequencer, OAM search, STAT/LY/LYC requests, registers and memory gates
(spec/62_ppu.md R501 to R541). Each function gives the PPU and the requests it raised (R401), which no PPU state reads. -/

namespace Sys2Proof.Machine

/-- `compareLYC` (R524). -/
def Ppu.compareLyc (p : Ppu) : Ppu × Irq :=
  if p.ly = p.lyc then ({ p with coincidence := true }, if p.statSel.getLsbD 3 then irqBit .stat else 0)
  else ({ p with coincidence := false }, 0)

/-- LY set by the PPU, with the compare that follows every such change (R58, R524). -/
def Ppu.setLy (p : Ppu) (v : Byte) : Ppu × Irq :=
  { p with ly := v }.compareLyc

/-- The STAT request of entering a mode (R534): HBlank with STAT[3], VBlank with STAT[4], OAMSearch with STAT[5]. -/
def Ppu.modeIrq (p : Ppu) (m : Mode) : Irq :=
  match m with
  | .hblank => if p.statSel.getLsbD 0 then irqBit .stat else 0
  | .vblank => if p.statSel.getLsbD 1 then irqBit .stat else 0
  | .oamSearch => if p.statSel.getLsbD 2 then irqBit .stat else 0
  | .drawing => 0

/-- `enterMode(m)` (R534). -/
def Ppu.enterMode (p : Ppu) (m : Mode) : Ppu × Irq :=
  ({ p with mode := m }, p.modeIrq m)

/-- The OAM buffer emptied (R526, R529, R532, R533). -/
def Ppu.clearOamBuffer (p : Ppu) : Ppu :=
  { p with oamBuffer := [], oamCount := 0 }

/-- The per-frame window state reset (R65, R527, R533). -/
def Ppu.resetWindow (p : Ppu) : Ppu :=
  { p with windowYTriggered := false, windowLine := -1 }

/-- The OAM entry `i` as it stands (R47, R522). -/
def Ppu.oamEntry (p : Ppu) (i : Nat) : OamEntry :=
  { y := memGet p.oam (4 * i), x := memGet p.oam (4 * i + 1), tile := memGet p.oam (4 * i + 2),
    flags := memGet p.oam (4 * i + 3), index := i }

/-- The qualification of an entry (R522), compared in the integers. -/
def Ppu.qualifies (p : Ppu) (e : OamEntry) : Bool :=
  decide (0 < e.x.toNat) && decide (e.y.toNat ≤ p.ly.toNat + 16) && decide (p.ly.toNat + 16 < e.y.toNat + p.objHeight) &&
    decide (p.oamCount < Config.maxSprites)

/-- The evaluation of OAM entry `i` (R522). -/
def Ppu.evalEntry (p : Ppu) (i : Nat) : Ppu :=
  let e := p.oamEntry i
  if p.qualifies e then { p with oamBuffer := p.oamBuffer ++ [e], oamCount := p.oamCount + 1 } else p

/-- An entry put before the first one whose x is not below its own, which keeps the order of equal x. -/
def insertByX (e : OamEntry) (es : List OamEntry) : List OamEntry :=
  match es with
  | [] => [e]
  | f :: fs => if e.x.toNat ≤ f.x.toNat then e :: f :: fs else f :: insertByX e fs

/-- The stable sort by x ascending (R523). -/
def sortByX (es : List OamEntry) : List OamEntry :=
  match es with
  | [] => []
  | e :: rest => insertByX e (sortByX rest)

/-- The end of OAMSearch (R521): sort, pipeline reset, Drawing. -/
def Ppu.endOamSearch (p : Ppu) : Ppu × Irq :=
  { p with oamBuffer := sortByX p.oamBuffer }.resetPipeline.enterMode .drawing

/-- A T-cycle of OAMSearch (R521), `lineCycles` already advanced. -/
def Ppu.oamSearchTick (p : Ppu) : Ppu × Irq :=
  let q := if p.lineCycles % 2 = 0 then p.evalEntry (p.lineCycles / 2 - 1) else p
  if q.lineCycles = Config.oamSearchLength then q.endOamSearch else (q, 0)

/-- A T-cycle of Drawing (R525). -/
def Ppu.drawingTick (p : Ppu) : Ppu × Irq :=
  let q := p.drawTick
  if q.pixelX = Config.screenWidth then q.resetPipeline.enterMode .hblank else (q, 0)

/-- VBlank entry (R527, R530). -/
def Ppu.enterVblank (p : Ppu) : Ppu × Irq :=
  let q := p.enterMode .vblank
  ({ q.1.resetWindow with framesPresented := p.framesPresented + 1 }, q.2 ||| irqBit .vblank)

/-- The start of a visible line's OAMSearch (R526, R529). -/
def Ppu.startLine (p : Ppu) : Ppu × Irq :=
  p.clearOamBuffer.enterMode .oamSearch

/-- The end of a visible line (R526). -/
def Ppu.endVisibleLine (p : Ppu) : Ppu × Irq :=
  let q := { p with lineCycles := 0 }.setLy (p.ly + 1)
  let r := if q.1.ly = 144 then q.1.enterVblank else q.1.startLine
  (r.1, q.2 ||| r.2)

/-- A T-cycle of HBlank (R526). -/
def Ppu.hblankTick (p : Ppu) : Ppu × Irq :=
  if Config.lineLength ≤ p.lineCycles then p.endVisibleLine else (p, 0)

/-- The end of the frame (R529). -/
def Ppu.endFrame (p : Ppu) : Ppu × Irq :=
  let q := { p with frameCounter := p.frameCounter + 1 }.setLy 0
  let r := q.1.startLine
  (r.1, q.2 ||| r.2)

/-- A T-cycle of VBlank (R528). -/
def Ppu.vblankTick (p : Ppu) : Ppu × Irq :=
  if Config.lineLength ≤ p.lineCycles then
    let q := { p with lineCycles := 0 }
    if p.ly.toNat < 153 then q.setLy (p.ly + 1) else q.endFrame
  else (p, 0)

/-- `ModeTick` (R520). -/
def Ppu.modeTick (p : Ppu) : Ppu × Irq :=
  let q := { p with lineCycles := p.lineCycles + 1 }
  match p.mode with
  | .oamSearch => q.oamSearchTick
  | .drawing => q.drawingTick
  | .hblank => q.hblankTick
  | .vblank => q.vblankTick

/-- The sequencer's part of `PpuTick` (R501): it runs with the LCD on only. -/
def Ppu.sequencerTick (p : Ppu) : Ppu × Irq :=
  if p.lcdc.getLsbD 7 then p.modeTick else (p, 0)

/-- The mode's number in STAT[1:0] (R56). -/
def Mode.bits (m : Mode) : BitVec 2 :=
  match m with
  | .hblank => 0
  | .vblank => 1
  | .oamSearch => 2
  | .drawing => 3

/-- `getMode()` (R509). -/
def Ppu.getMode (p : Ppu) : Mode := p.mode

/-- STAT as read (R506). -/
def Ppu.stat (p : Ppu) : Byte :=
  (1 : BitVec 1) ++ p.statSel ++ BitVec.ofBool p.coincidence ++ p.mode.bits

/-- `Ppu.readReg`, bus 0xFF40 to 0xFF4B (R505 to R508, addresses R71). -/
def Ppu.readReg (p : Ppu) (a : Nat) : Byte :=
  if a = 0xFF40 then p.lcdc
  else if a = 0xFF41 then p.stat
  else if a = 0xFF42 then p.scy
  else if a = 0xFF43 then p.scx
  else if a = 0xFF44 then p.ly
  else if a = 0xFF45 then p.lyc
  else if a = 0xFF46 then p.dmaReg
  else if a = 0xFF47 then p.bgp
  else if a = 0xFF48 then p.obp0
  else if a = 0xFF49 then p.obp1
  else if a = 0xFF4A then p.wy
  else p.wx

/-- LCD enable (R532). -/
def Ppu.lcdEnable (p : Ppu) : Ppu :=
  { p.clearOamBuffer with mode := .oamSearch, lineCycles := 0 }

/-- LCD disable (R533). -/
def Ppu.lcdDisable (p : Ppu) : Ppu × Irq :=
  let q := { p with mode := .hblank }.setLy 0
  ({ q.1 with lineCycles := 0 }.resetPipeline.clearOamBuffer.resetWindow, q.2)

/-- LCDC write (R511). -/
def Ppu.writeLcdc (p : Ppu) (v : Byte) : Ppu × Irq :=
  let q := { p with lcdc := v }
  if p.lcdc.getLsbD 7 && !v.getLsbD 7 then q.lcdDisable
  else if !p.lcdc.getLsbD 7 && v.getLsbD 7 then (q.lcdEnable, 0)
  else (q, 0)

/-- DMA start (R545, R516, R548): the source page is clamped to 0xDF. -/
def Ppu.startDma (p : Ppu) (v : Byte) : Ppu :=
  { p with dmaReg := v, dmaSource := wordOf (if v.toNat ≤ 0xDF then v else 0xDF) 0, dmaIndex := 0, dmaActive := true }

/-- `Ppu.writeReg`, bus 0xFF40 to 0xFF4B (R510 to R518, addresses R71). -/
def Ppu.writeReg (p : Ppu) (a : Nat) (v : Byte) : Ppu × Irq :=
  if a = 0xFF40 then p.writeLcdc v
  else if a = 0xFF41 then ({ p with statSel := (v >>> 3).setWidth 4 }, 0)
  else if a = 0xFF42 then ({ p with scy := v }, 0)
  else if a = 0xFF43 then ({ p with scx := v }, 0)
  else if a = 0xFF44 then (p, 0)
  else if a = 0xFF45 then ({ p with lyc := v }, 0)
  else if a = 0xFF46 then (p.startDma v, 0)
  else if a = 0xFF47 then ({ p with bgp := v }, 0)
  else if a = 0xFF48 then ({ p with obp0 := v }, 0)
  else if a = 0xFF49 then ({ p with obp1 := v }, 0)
  else if a = 0xFF4A then ({ p with wy := v }, 0)
  else ({ p with wx := v }, 0)

/-- The OAM gate is shut (R540). -/
def Ppu.oamGated (p : Ppu) : Bool :=
  p.mode == .oamSearch || p.mode == .drawing

/-- The VRAM gate is shut (R541). -/
def Ppu.vramGated (p : Ppu) : Bool :=
  p.mode == .drawing

/-- `Ppu.readOAM`, bus 0xFE00 to 0xFE9F (R540). -/
def Ppu.readOam (p : Ppu) (a : Nat) : Byte :=
  if p.oamGated then Config.openBus else memGet p.oam (a - 0xFE00)

/-- `Ppu.writeOAM` (R540). -/
def Ppu.writeOam (p : Ppu) (a : Nat) (v : Byte) : Ppu :=
  if p.oamGated then p else { p with oam := memSet p.oam (a - 0xFE00) v }

/-- `Ppu.readVRAM`, bus 0x8000 to 0x9FFF (R541). -/
def Ppu.readVram (p : Ppu) (a : Nat) : Byte :=
  if p.vramGated then Config.openBus else memGet p.vram (a - 0x8000)

/-- `Ppu.writeVRAM` (R541). -/
def Ppu.writeVram (p : Ppu) (a : Nat) (v : Byte) : Ppu :=
  if p.vramGated then p else { p with vram := memSet p.vram (a - 0x8000) v }

end Sys2Proof.Machine
end

