-- ==== Sys2Proof/Machine/Timer.lean ====
section
/-! DEFINITION. The Timer (spec/61_timer.md R450 to R462). -/

namespace Sys2Proof.Machine

/-- The divider bit the falling-edge detector watches (R451). -/
def Timer.watchedBit (t : Timer) : Nat :=
  match (t.tac.setWidth 2).toNat with
  | 0 => 9
  | 1 => 3
  | 2 => 5
  | _ => 7

/-- The delayed reload, the first act of a T-cycle (R452, R460). -/
def Timer.reloadStep (t : Timer) : Timer :=
  if t.reloadCountdown = 0 then t
  else if t.reloadCountdown = 1 then { t with reloadCountdown := 0, tima := t.tma }
  else { t with reloadCountdown := t.reloadCountdown - 1 }

/-- `andResult` (R452): the watched divider bit and the enable bit. -/
def Timer.andResult (t : Timer) : Bool :=
  t.divCounter.getLsbD t.watchedBit && t.tac.getLsbD 2

/-- What a falling edge does to TIMA (R452, R459). -/
def Timer.increment (t : Timer) : Timer × Irq :=
  if t.tima = 0xFF then ({ t with tima := 0x00, reloadCountdown := 4 }, irqBit .timer)
  else ({ t with tima := t.tima + 1 }, 0)

/-- The divider increment and the edge check, the second act of a T-cycle (R452). -/
def Timer.edgeStep (t : Timer) : Timer × Irq :=
  let t1 := { t with divCounter := t.divCounter + 1 }
  let r := t1.andResult
  let q := if t1.prevAnd && !r then t1.increment else (t1, 0)
  ({ q.1 with prevAnd := r }, q.2)

/-- `TimerTick` (R452): the Timer after one T-cycle, and the requests it raised. -/
def Timer.tick (t : Timer) : Timer × Irq :=
  t.reloadStep.edgeStep

/-- `n` successive ticks (R450, R82), with every request raised on the way. -/
def Timer.ticks (n : Nat) (t : Timer) : Timer × Irq :=
  match n with
  | 0 => (t, 0)
  | k + 1 =>
    let q := t.tick
    let r := Timer.ticks k q.1
    (r.1, q.2 ||| r.2)

/-- Timer reads, bus 0xFF04 to 0xFF07 (R453, R458). -/
def Timer.read (t : Timer) (a : Nat) : Byte :=
  if a = 0xFF04 then hiByte t.divCounter
  else if a = 0xFF05 then t.tima
  else if a = 0xFF06 then t.tma
  else 0xF8 ||| t.tac.setWidth 8

/-- Timer writes, bus 0xFF04 to 0xFF07 (R454 to R457). -/
def Timer.write (t : Timer) (a : Nat) (v : Byte) : Timer :=
  if a = 0xFF04 then { t with divCounter := 0 }
  else if a = 0xFF05 then { t with tima := v, reloadCountdown := 0 }
  else if a = 0xFF06 then { t with tma := v }
  else { t with tac := v.setWidth 3 }

end Sys2Proof.Machine
end

