-- ==== Sys2Proof/Machine/Bus.lean ====
section
/-! DEFINITION. The bus decoder (spec/20_memory.md R90 to R95) and the device catch-up it feeds: the OAM DMA step
(spec/62_ppu.md R546), the PPU tick (R501) and the two updates (R450, R500). -/

namespace Sys2Proof.Machine

/-- HRAM's bus range, the one the DMA lockout leaves open (R92). -/
def inHram (a : Nat) : Bool :=
  decide (0xFF80 ≤ a) && decide (a ≤ 0xFFFE)

/-- The cartridge's bus ranges (R90 rule 3). -/
def inCart (a : Nat) : Bool :=
  decide (a ≤ 0x7FFF) || (decide (0xA000 ≤ a) && decide (a ≤ 0xBFFF))

/-- Rules 2 to 13 of `Bus.read` (R90): the routing that holds with no DMA active. -/
def State.route (s : State) (a : Nat) : Byte :=
  if a < 0x0100 && s.bootMapped then memGet s.boot a
  else if inCart a then s.cart.read a
  else if 0xC000 ≤ a ∧ a ≤ 0xDFFF then memGet s.wram (a - 0xC000)
  else if 0xE000 ≤ a ∧ a ≤ 0xFDFF then memGet s.wram (a - 0xE000)
  else if inHram a then memGet s.hram (a - 0xFF80)
  else if 0xFF40 ≤ a ∧ a ≤ 0xFF4B then s.ppu.readReg a
  else if 0xFE00 ≤ a ∧ a ≤ 0xFE9F then s.ppu.readOam a
  else if 0x8000 ≤ a ∧ a ≤ 0x9FFF then s.ppu.readVram a
  else if 0xFF04 ≤ a ∧ a ≤ 0xFF07 then s.timer.read a
  else if a = 0xFFFF then s.ie
  else if a = 0xFF0F then (0b111 : BitVec 3) ++ s.iflag
  else if a = 0xFF00 then joypadRead s.joypadParam s.joypad
  else if a = 0xFF50 then (if s.bootMapped then 0 else 1)
  else memGet s.gen a

/-- `Bus.read(addr, isDMARead)` (R90): rule 1 is the DMA lockout, which the DMA engine's own reads skip (R92). -/
def State.busRead (s : State) (isDma : Bool) (a : Word) : Byte :=
  if s.ppu.dmaActive && !isDma && !inHram a.toNat then Config.openBus else s.route a.toNat

/-- `MemRead(addr, 1)` (R14): the CPU's read. -/
def State.read (s : State) (a : Word) : Byte :=
  s.busRead false a

/-- A write that reaches the cartridge (R91 rule 3), with the fault of R113 marked if it raises one (R420). -/
def State.writeCart (s : State) (a : Nat) (v : Byte) : State :=
  let c := s.cart.write a v
  match c.bankFault a with
  | none => { s with cart := c }
  | some r => { s with cart := c, faulted := some r }

/-- A write that reaches a PPU register (R91 rule 6), with the requests it raises (R533). -/
def State.writePpuReg (s : State) (a : Nat) (v : Byte) : State :=
  let q := s.ppu.writeReg a v
  { s with ppu := q.1 }.request q.2

/-- Rules 3 to 13 of `Bus.write` (R91): the routing that holds with no DMA active. -/
def State.store (s : State) (a : Nat) (v : Byte) : State :=
  if inCart a then s.writeCart a v
  else if 0xC000 ≤ a ∧ a ≤ 0xDFFF then { s with wram := memSet s.wram (a - 0xC000) v }
  else if 0xE000 ≤ a ∧ a ≤ 0xFDFF then { s with wram := memSet s.wram (a - 0xE000) v }
  else if inHram a then { s with hram := memSet s.hram (a - 0xFF80) v }
  else if 0xFF40 ≤ a ∧ a ≤ 0xFF4B then s.writePpuReg a v
  else if 0xFE00 ≤ a ∧ a ≤ 0xFE9F then { s with ppu := s.ppu.writeOam a v }
  else if 0x8000 ≤ a ∧ a ≤ 0x9FFF then { s with ppu := s.ppu.writeVram a v }
  else if 0xFF04 ≤ a ∧ a ≤ 0xFF07 then { s with timer := s.timer.write a v }
  else if a = 0xFFFF then { s with ie := v }
  else if a = 0xFF0F then { s with iflag := v.setWidth 5 }
  else if a = 0xFF00 then s.inputEvent (.write v)
  else if a = 0xFF50 then { s with bootMapped := s.bootMapped && v == 0 }
  else { s with gen := memSet s.gen a v }

/-- `MemWrite(addr, 1, v)`, that is `Bus.write(addr, v)` (R14, R91): during a DMA every write outside HRAM is dropped (R92). -/
def State.write (s : State) (a : Word) (v : Byte) : State :=
  if s.ppu.dmaActive && !inHram a.toNat then s else s.store a.toNat v

/-- `DmaStep` (R546): one byte, whose source read passes the boot overlay, the MBC and the VRAM gate; OAM is not gated. -/
def State.dmaStep (s : State) : State :=
  let v := s.busRead true (s.ppu.dmaSource + BitVec.ofNat 16 s.ppu.dmaIndex)
  { s with ppu := { s.ppu with oam := memSet s.ppu.oam s.ppu.dmaIndex v, dmaIndex := s.ppu.dmaIndex + 1,
                               dmaActive := s.ppu.dmaIndex + 1 != Config.oamSize } }

/-- `PpuTick` (R501): the DMA engine, then the sequencer if the LCD is on. -/
def State.ppuTick (s : State) : State :=
  let t := if s.ppu.dmaActive then s.dmaStep else s
  let q := t.ppu.sequencerTick
  { t with ppu := q.1 }.request q.2

/-- `n` successive PPU ticks (R82, R500). -/
def State.ppuTicks (n : Nat) (s : State) : State :=
  match n with
  | 0 => s
  | k + 1 => State.ppuTicks k s.ppuTick

/-- `PpuUpdate` (R500). -/
def State.ppuUpdate (s : State) : State :=
  { State.ppuTicks (s.cycles - s.ppuLast).toNat s with ppuLast := s.cycles }

/-- `TimerUpdate` (R450). -/
def State.timerUpdate (s : State) : State :=
  let q := Timer.ticks (s.cycles - s.timerLast).toNat s.timer
  { s with timer := q.1, timerLast := s.cycles }.request q.2

/-- The catch-up that follows every CPU step (R81, R82): the PPU, then the Timer. -/
def State.catchUp (s : State) : State :=
  s.ppuUpdate.timerUpdate

end Sys2Proof.Machine
end

