-- ==== Sys2Proof/Machine/Flags.lean ====
section
/-! DEFINITION. The flags (spec/10_state.md R34, R35): their places in F, the conditions that read them
(spec/30_encoding.md R155), and every result-and-flag computation of spec/42_alu8.md, 43_alu16.md and 44_rotate_bit.md.
Results are computed in the integers and narrowed once. A computation that writes flags gives a whole new F, whose bits
3 to 0 are 0 (R34, R200). -/

namespace Sys2Proof.Machine

/-- The four flags (R34). -/
structure Flags where
  z : Bool
  n : Bool
  h : Bool
  c : Bool
  deriving DecidableEq, Repr

/-- F from its four flags, bits 3 to 0 zero (R34). -/
def Flags.pack (f : Flags) : Byte :=
  BitVec.ofBool f.z ++ BitVec.ofBool f.n ++ BitVec.ofBool f.h ++ BitVec.ofBool f.c ++ (0 : BitVec 4)

/-- The four flags of F (R34): Z bit 7, N bit 6, H bit 5, C bit 4. -/
def flagsOf (f : Byte) : Flags :=
  { z := f.getLsbD 7, n := f.getLsbD 6, h := f.getLsbD 5, c := f.getLsbD 4 }

/-- The flags of a state. -/
def State.flags (s : State) : Flags :=
  flagsOf s.regs.f

/-- A condition on the flags (R155, R320). -/
def Flags.holds (f : Flags) (cc : Cond) : Bool :=
  match cc with
  | .nz => !f.z
  | .z => f.z
  | .nc => !f.c
  | .c => f.c

/-- A result byte with the flags it leaves. -/
structure Result where
  value : Byte
  flags : Flags
  deriving DecidableEq, Repr

/-- The carry flag as 0 or 1 (R250). -/
def carryIn (f : Flags) : Nat :=
  if f.c then 1 else 0

/-- ADD (R251) with carry-in 0, ADC (R252) with the carry. -/
def addBytes (a v : Byte) (c : Nat) : Result :=
  let result := a.toNat + v.toNat + c
  { value := BitVec.ofNat 8 result,
    flags := { z := BitVec.ofNat 8 result == 0, n := false, h := decide (a.toNat % 16 + v.toNat % 16 + c > 0x0F),
               c := decide (result > 0xFF) } }

/-- SUB and CP (R253, R258) with borrow-in 0, SBC (R254) with the carry. -/
def subBytes (a v : Byte) (c : Nat) : Result :=
  let result := (a.toNat : Int) - v.toNat - c
  { value := BitVec.ofInt 8 result,
    flags := { z := BitVec.ofInt 8 result == 0, n := true, h := decide (a.toNat % 16 < v.toNat % 16 + c),
               c := decide (a.toNat < v.toNat + c) } }

/-- A logical result (R255 to R257): Z from it, N and C 0, H as given. -/
def logicResult (r : Byte) (h : Bool) : Result :=
  { value := r, flags := { z := r == 0, n := false, h := h, c := false } }

/-- The eight operations of R250: what A becomes and what the flags become. CP leaves A (R258). -/
def alu (op : AluOp) (a v : Byte) (f : Flags) : Result :=
  match op with
  | .add => addBytes a v 0
  | .adc => addBytes a v (carryIn f)
  | .sub => subBytes a v 0
  | .sbc => subBytes a v (carryIn f)
  | .and => logicResult (a &&& v) true
  | .xor => logicResult (a ^^^ v) false
  | .or => logicResult (a ||| v) false
  | .cp => { value := a, flags := (subBytes a v 0).flags }

/-- INC (R259, R260): C unchanged. -/
def incByte (v : Byte) (f : Flags) : Result :=
  { value := v + 1, flags := { z := v + 1 == 0, n := false, h := v.toNat % 16 == 0x0F, c := f.c } }

/-- DEC (R261, R262): C unchanged. -/
def decByte (v : Byte) (f : Flags) : Result :=
  { value := v - 1, flags := { z := v - 1 == 0, n := true, h := v.toNat % 16 == 0x00, c := f.c } }

/-- Whether DAA adjusts the high digit, which is also the C it leaves (R263). -/
def daaHigh (a : Byte) (f : Flags) : Bool :=
  if f.n then f.c else f.c || decide (a.toNat > 0x99)

/-- Whether DAA adjusts the low digit (R263). R263 tests `a & 0x0F` after the 0x60 step, which leaves the low digit. -/
def daaLow (a : Byte) (f : Flags) : Bool :=
  if f.n then f.h else f.h || decide (a.toNat % 16 > 0x09)

/-- DAA (R263): 0x60 and 0x06 added after an addition, subtracted after a subtraction. -/
def daaByte (a : Byte) (f : Flags) : Result :=
  let adj : Int := (if daaHigh a f then 0x60 else 0) + (if daaLow a f then 0x06 else 0)
  let r := BitVec.ofInt 8 (if f.n then (a.toNat : Int) - adj else (a.toNat : Int) + adj)
  { value := r, flags := { z := r == 0, n := f.n, h := false, c := daaHigh a f } }

/-- CPL (R264). -/
def cplByte (a : Byte) (f : Flags) : Result :=
  { value := ~~~a, flags := { z := f.z, n := true, h := true, c := f.c } }

/-- SCF (R265). -/
def scfFlags (f : Flags) : Flags :=
  { z := f.z, n := false, h := false, c := true }

/-- CCF (R266). -/
def ccfFlags (f : Flags) : Flags :=
  { z := f.z, n := false, h := false, c := !f.c }

/-- The result and the carry out of a rotate or shift (R295 to R302), `c` being the carry before it. -/
def shiftOut (op : ShiftOp) (v : Byte) (c : Bool) : Byte × Bool :=
  match op with
  | .rlc => ((v <<< 1) ||| (BitVec.ofBool (v.getLsbD 7)).setWidth 8, v.getLsbD 7)
  | .rrc => ((v >>> 1) ||| ((BitVec.ofBool (v.getLsbD 0)).setWidth 8 <<< 7), v.getLsbD 0)
  | .rl => ((v <<< 1) ||| (BitVec.ofBool c).setWidth 8, v.getLsbD 7)
  | .rr => ((v >>> 1) ||| ((BitVec.ofBool c).setWidth 8 <<< 7), v.getLsbD 0)
  | .sla => (v <<< 1, v.getLsbD 7)
  | .sra => ((v >>> 1) ||| (v &&& 0x80), v.getLsbD 0)
  | .swap => ((v <<< 4) ||| (v >>> 4), false)
  | .srl => (v >>> 1, v.getLsbD 0)

/-- A CB rotate or shift (R295 to R302): Z from the result. -/
def shiftByte (op : ShiftOp) (v : Byte) (f : Flags) : Result :=
  let q := shiftOut op v f.c
  { value := q.1, flags := { z := q.1 == 0, n := false, h := false, c := q.2 } }

/-- RLCA, RRCA, RLA, RRA (R291 to R294): as the CB form, but Z is always 0. -/
def rotateA (op : ShiftOp) (v : Byte) (f : Flags) : Result :=
  let q := shiftOut op v f.c
  { value := q.1, flags := { z := false, n := false, h := false, c := q.2 } }

/-- BIT b (R303): C unchanged. -/
def bitFlags (b : Fin 8) (v : Byte) (f : Flags) : Flags :=
  { z := !v.getLsbD b, n := false, h := true, c := f.c }

/-- RES b (R304). -/
def resByte (b : Fin 8) (v : Byte) : Byte :=
  v &&& ~~~((1 : Byte) <<< b.val)

/-- SET b (R305). -/
def setByte (b : Fin 8) (v : Byte) : Byte :=
  v ||| ((1 : Byte) <<< b.val)

/-- ADD HL,rr (R281): the sum, with carries out of bits 11 and 15; Z unchanged. -/
def addWords (hl v : Word) (f : Flags) : Word × Flags :=
  let result := hl.toNat + v.toNat
  (BitVec.ofNat 16 result,
    { z := f.z, n := false, h := decide (hl.toNat % 0x1000 + v.toNat % 0x1000 > 0x0FFF), c := decide (result > 0xFFFF) })

/-- ADD SP,e and LD HL,SP+e (R237, R284): the signed sum, with the flags of the unsigned low-byte sum. -/
def spPlus (sp : Word) (e : Byte) : Word × Flags :=
  (sp + sext16 e,
    { z := false, n := false, h := decide (sp.toNat % 16 + e.toNat % 16 > 0x0F),
      c := decide (sp.toNat % 256 + e.toNat > 0xFF) })

end Sys2Proof.Machine
end

