-- ==== Sys2Proof/Machine/Ops.lean ====
section
/-! DEFINITION. The named operations over memory and registers that every meaning is made of: register access with the
pair aliasing of spec/10_state.md R33, the sequencing that stops an instruction at a fault (spec/60_exceptions.md R420),
the stack (spec/41_load16.md R230), the Clock, and the taking of an interrupt with the return from one (R407, R330). -/

namespace Sys2Proof.Machine

/-- `x[r]` (R13, R32). -/
def Regs.get8 (g : Regs) (r : Reg8) : Byte :=
  match r with
  | .b => g.b
  | .c => g.c
  | .d => g.d
  | .e => g.e
  | .h => g.h
  | .l => g.l
  | .a => g.a

/-- `x[r] <- v` (R13, R33): no other register changes. -/
def Regs.set8 (g : Regs) (r : Reg8) (v : Byte) : Regs :=
  match r with
  | .b => { g with b := v }
  | .c => { g with c := v }
  | .d => { g with d := v }
  | .e => { g with e := v }
  | .h => { g with h := v }
  | .l => { g with l := v }
  | .a => { g with a := v }

/-- `x[rr]` (R33): a pair is its first register as the high byte and its second as the low one. -/
def Regs.get16 (g : Regs) (r : Reg16) : Word :=
  match r with
  | .bc => wordOf g.b g.c
  | .de => wordOf g.d g.e
  | .hl => wordOf g.h g.l
  | .sp => g.sp
  | .af => wordOf g.a g.f

/-- `x[rr] <- v` (R33). AF is written as given; POP AF masks the low byte itself (R236). -/
def Regs.set16 (g : Regs) (r : Reg16) (v : Word) : Regs :=
  match r with
  | .bc => { g with b := hiByte v, c := loByte v }
  | .de => { g with d := hiByte v, e := loByte v }
  | .hl => { g with h := hiByte v, l := loByte v }
  | .sp => { g with sp := v }
  | .af => { g with a := hiByte v, f := loByte v }

/-- The register a field of `PairSp` names (R154). -/
def pairSpReg (p : PairSp) : Reg16 :=
  match p with
  | .bc => .bc
  | .de => .de
  | .hl => .hl
  | .sp => .sp

/-- The register a field of `PairAf` names (R154). -/
def pairAfReg (p : PairAf) : Reg16 :=
  match p with
  | .bc => .bc
  | .de => .de
  | .hl => .hl
  | .af => .af

/-- `x[r]` of a state. -/
def State.get8 (s : State) (r : Reg8) : Byte := s.regs.get8 r

/-- `x[r] <- v` of a state. -/
def State.set8 (s : State) (r : Reg8) (v : Byte) : State := { s with regs := s.regs.set8 r v }

/-- `x[rr]` of a state. -/
def State.get16 (s : State) (r : Reg16) : Word := s.regs.get16 r

/-- `x[rr] <- v` of a state. -/
def State.set16 (s : State) (r : Reg16) (v : Word) : State := { s with regs := s.regs.set16 r v }

/-- The flags written, F whole (R34). -/
def State.setFlags (s : State) (f : Flags) : State := { s with regs := { s.regs with f := f.pack } }

/-- `pc <- target` (R13). -/
def State.setPc (s : State) (v : Word) : State := { s with regs := { s.regs with pc := v } }

/-- `x[SP] <- v`. -/
def State.setSp (s : State) (v : Word) : State := { s with regs := { s.regs with sp := v } }

/-- The Clock advanced by a cost in T-cycles (R30, R81). -/
def State.tick (s : State) (cost : Nat) : State := { s with cycles := s.cycles + BitVec.ofNat 64 cost }

/-- IME and the pending effect of EI (R38, R39). -/
def State.setIme (s : State) (ime : Bool) (delay : Nat) : State := { s with ime := ime, imeDelay := delay }

/-- `halted` and `haltBug` (R40, R41). -/
def State.setHalt (s : State) (halted bug : Bool) : State := { s with halted := halted, haltBug := bug }

/-- `locked <- true` (R42, R358). -/
def State.lock (s : State) : State := { s with locked := true }

/-- `refuse(reason)` (R421). -/
def State.refuse (s : State) (r : Refusal) : State := { s with refused := some r }

/-- What follows a bus write inside an instruction or a dispatch: nothing of it happens once a fault is raised (R420). -/
def State.andThen (s : State) (k : State → State) : State :=
  if s.faulted.isSome then s else k s

/-- No further system step takes place (R420, R421). -/
def State.stopped (s : State) : Bool :=
  s.faulted.isSome || s.refused.isSome

/-- `MemWrite(addr, 2, v)` (R14): the low byte, then the high byte at the next address, unless the first write faults. -/
def State.write16 (s : State) (a v : Word) : State :=
  (s.write a (loByte v)).andThen fun t => t.write (a + 1) (hiByte v)

/-- `Push16(v)` (R230): SP down, the high byte, SP down, the low byte; a fault of the first write stops it there. -/
def State.push16 (s : State) (v : Word) : State :=
  ((s.setSp (s.regs.sp - 1)).write (s.regs.sp - 1) (hiByte v)).andThen fun t =>
    (t.setSp (t.regs.sp - 1)).write (t.regs.sp - 1) (loByte v)

/-- The value `Pop16()` returns (R230): the low byte at SP, the high byte at SP + 1. -/
def State.top16 (s : State) : Word :=
  wordOf (s.read (s.regs.sp + 1)) (s.read s.regs.sp)

/-- SP after `Pop16()` (R230). -/
def State.dropTop (s : State) : State :=
  s.setSp (s.regs.sp + 2)

/-- `pending = IE & IF & 0x1F` (R350, R404). -/
def State.pending (s : State) : Irq :=
  s.ie.setWidth 5 &&& s.iflag

/-- The source served (R405): the lowest set bit of `pending`; Joypad when no lower one is set. -/
def lowestSource (p : Irq) : IrqSource :=
  if p.getLsbD 0 then .vblank
  else if p.getLsbD 1 then .stat
  else if p.getLsbD 2 then .timer
  else if p.getLsbD 3 then .serial
  else .joypad

/-- The vector of a source (R400, R406): `0x0040 + 8 * k`. -/
def vector (k : IrqSource) : Word :=
  match k with
  | .vblank => 0x0040
  | .stat => 0x0048
  | .timer => 0x0050
  | .serial => 0x0058
  | .joypad => 0x0060

/-- What a dispatch does before its pushes (R407): IME and a pending EI cleared, and the IF bit of the source served. -/
def State.acknowledge (s : State) (k : IrqSource) : State :=
  { s with ime := false, imeDelay := 0, iflag := s.iflag &&& ~~~irqBit k }

/-- TAKING AN INTERRUPT, `Dispatch()` (R407, R408): the source is chosen first, its IF bit and IME cleared, PC pushed, PC set
to the vector, 20 T-cycles charged. -/
def State.dispatch (s : State) : State :=
  ((s.acknowledge (lowestSource s.pending)).push16 s.regs.pc).andThen fun t =>
    (t.setPc (vector (lowestSource s.pending))).tick 20

/-- THE RETURN (R330, R410): PC popped; RETI also sets IME at once and leaves imeDelay. -/
def State.returnFrom (s : State) (setsIme : Bool) : State :=
  let t := s.dropTop.setPc s.top16
  { t with ime := t.ime || setsIme }

end Sys2Proof.Machine
end

