-- ==== Sys2Proof/Machine/Operands.lean ====
section
/-! DEFINITION. The operand forms (spec/30_encoding.md R153 to R160) and the shapes the meanings share, each written once:
what a load, a store, an arithmetic operation, a read-modify-write, a jump, a call, a return does with its operand, and
that it then charges its cost (spec/40_load8.md R200). Each shape ends in a next state: where a bus write raises the fault
of R113 that next state is the faulted one, with nothing after the write done (R420), and `step` stops there. -/

namespace Sys2Proof.Machine

/-- What every meaning answers. -/
abbrev Answer := Host.Outcome State Fault Refusal

/-- The address of the (HL) operand (R153). -/
def State.hl (s : State) : Word := s.get16 .hl

/-- The address of the (BC) operand (R206, R208). -/
def State.bc (s : State) : Word := s.get16 .bc

/-- The address of the (DE) operand (R207, R209). -/
def State.de (s : State) : Word := s.get16 .de

/-- The high-page address `0xFF00 + n` (R160). -/
def highPage (n : Byte) : Word := wordOf 0xFF n

/-- `x[r] <- v` (R201 to R203, R206, R207, R210, R212, R214). -/
def loadReg (r : Reg8) (v : Byte) (cost : Nat) (s : State) : Answer :=
  .next ((s.set8 r v).tick cost)

/-- `x[rr] <- v` (R231, R233, R282, R283). -/
def loadPair (rr : Reg16) (v : Word) (cost : Nat) (s : State) : Answer :=
  .next ((s.set16 rr v).tick cost)

/-- `MemWrite(a, 1, v)` (R204, R205, R208, R209, R211, R213, R215, R304, R305). -/
def storeByte (a : Word) (v : Byte) (cost : Nat) (s : State) : Answer :=
  .next ((s.write a v).andThen fun t => t.tick cost)

/-- LD A,(HL+) and LD A,(HL-) (R216, R217): A loaded, then HL moved by `d`. -/
def loadAStep (d : Word) (cost : Nat) (s : State) : Answer :=
  .next (((s.set8 .a (s.read s.hl)).set16 .hl (s.hl + d)).tick cost)

/-- LD (HL+),A and LD (HL-),A (R218, R219): A stored, then HL moved by `d` unless the store faults. -/
def storeAStep (d : Word) (cost : Nat) (s : State) : Answer :=
  .next ((s.write s.hl s.regs.a).andThen fun t => (t.set16 .hl (t.hl + d)).tick cost)

/-- LD (nn),SP (R232). -/
def storeSp (nn : Word) (cost : Nat) (s : State) : Answer :=
  .next ((s.write16 nn s.regs.sp).andThen fun t => t.tick cost)

/-- PUSH (R234). -/
def pushPair (rr : Reg16) (cost : Nat) (s : State) : Answer :=
  .next ((s.push16 (s.get16 rr)).andThen fun t => t.tick cost)

/-- POP rr (R235). -/
def popPair (rr : Reg16) (cost : Nat) (s : State) : Answer :=
  .next ((s.dropTop.set16 rr s.top16).tick cost)

/-- POP AF (R236): the popped low byte masked with 0xF0. -/
def popAfMasked (cost : Nat) (s : State) : Answer :=
  .next ((s.dropTop.set16 .af (s.top16 &&& 0xFFF0)).tick cost)

/-- LD HL,SP+e and ADD SP,e (R237, R284), into `rr`. -/
def spPlusInto (rr : Reg16) (e : Byte) (cost : Nat) (s : State) : Answer :=
  let q := spPlus s.regs.sp e
  .next (((s.set16 rr q.1).setFlags q.2).tick cost)

/-- An operation of R250 on A and the operand `v`. -/
def aluWith (op : AluOp) (v : Byte) (cost : Nat) (s : State) : Answer :=
  let q := alu op s.regs.a v s.flags
  .next (((s.set8 .a q.value).setFlags q.flags).tick cost)

/-- A register read, changed and written back with its flags (R259, R261, R263, R264, R291 to R302). -/
def modifyReg (g : Byte → Flags → Result) (r : Reg8) (cost : Nat) (s : State) : Answer :=
  let q := g (s.get8 r) s.flags
  .next (((s.set8 r q.value).setFlags q.flags).tick cost)

/-- Memory at HL read, changed and written back, then the flags (R260, R262, R290): a fault of the write leaves them. -/
def modifyMemHl (g : Byte → Flags → Result) (cost : Nat) (s : State) : Answer :=
  let q := g (s.read s.hl) s.flags
  .next ((s.write s.hl q.value).andThen fun t => (t.setFlags q.flags).tick cost)

/-- Only flags written (R265, R266, R303). -/
def writeFlags (f : Flags) (cost : Nat) (s : State) : Answer :=
  .next ((s.setFlags f).tick cost)

/-- ADD HL,rr (R281). -/
def addHl (rr : Reg16) (cost : Nat) (s : State) : Answer :=
  let q := addWords s.hl (s.get16 rr) s.flags
  .next (((s.set16 .hl q.1).setFlags q.2).tick cost)

/-- A jump (R321, R323, R324). -/
def jumpTo (target : Word) (cost : Nat) (s : State) : Answer :=
  .next ((s.setPc target).tick cost)

/-- A conditional jump (R322, R325), with its costs taken and not taken. -/
def jumpIf (cc : Cond) (target : Word) (taken notTaken : Nat) (s : State) : Answer :=
  if s.flags.holds cc then jumpTo target taken s else .next (s.tick notTaken)

/-- The target of JR (R158, R324): pc already holds the address of the next instruction. -/
def State.relative (s : State) (e : Byte) : Word :=
  s.regs.pc + sext16 e

/-- A call or restart (R326, R331): pc pushed, then set; neither the jump nor the cost after a faulting push. -/
def callTo (target : Word) (cost : Nat) (s : State) : Answer :=
  .next ((s.push16 s.regs.pc).andThen fun t => (t.setPc target).tick cost)

/-- A conditional call (R327). -/
def callIf (cc : Cond) (target : Word) (taken notTaken : Nat) (s : State) : Answer :=
  if s.flags.holds cc then callTo target taken s else .next (s.tick notTaken)

/-- A return (R328, R330). -/
def returnWith (setsIme : Bool) (cost : Nat) (s : State) : Answer :=
  .next ((s.returnFrom setsIme).tick cost)

/-- A conditional return (R329). -/
def returnIf (cc : Cond) (taken notTaken : Nat) (s : State) : Answer :=
  if s.flags.holds cc then returnWith false taken s else .next (s.tick notTaken)

/-- The effect of HALT (R357): the halt bug when IME is 0 and an enabled interrupt is pending, else the halted state. -/
def State.halt (s : State) : State :=
  if !s.ime && s.pending != 0 then s.setHalt s.halted true else s.setHalt true s.haltBug

/-- The address of a one-byte instruction just fetched, `pc` being the address after it (R359). -/
def State.lastOpcode (s : State) : Word := s.regs.pc - 1

end Sys2Proof.Machine
end

