-- ==== Sys2Proof/Machine/Cpu.lean ====
section
/-! DEFINITION. The parts of the CPU step (spec/46_system.md R350 to R353, R360) that Step.lean puts together: the fetch with
the halt bug, the waiting steps, the EI countdown, the end of a system step (spec/20_memory.md R81); the launch
(spec/70_reset_and_hazards.md R700); and the placing of an instruction where the next step fetches it. -/

namespace Sys2Proof.Machine

/-- Where the byte after the opcode is fetched (R351, R352): the byte after pc, or pc again when the halt bug is armed. -/
def State.operandPc (s : State) : Word :=
  if s.haltBug then s.regs.pc else s.regs.pc + 1

/-- The instruction at pc (R165, R351, R352). Reads have no side effect (R89), so reading a byte the instruction does not
have changes nothing. -/
def State.fetchInstr (s : State) : Instr :=
  decodeBytes (s.read s.regs.pc) (s.read s.operandPc) (s.read (s.operandPc + 1))

/-- The bytes fetched after the opcode (R165): the operand bytes of R151, and none for STOP, which is refused with pc after
its first byte (R359, V17; log entry 6). -/
def fetchedOperands (i : Instr) : Nat :=
  match i with
  | .stop => 0
  | _ => i.length - 1

/-- The state after the fetch of `i` (R165, R351, R352): pc advanced, the halt bug cleared. -/
def State.fetched (s : State) (i : Instr) : State :=
  { s.setPc (s.operandPc + BitVec.ofNat 16 (fetchedOperands i)) with haltBug := false }

/-- A wake from the halted state (R350, R353). -/
def State.wake (s : State) : State :=
  { s with halted := false }

/-- Whether the CPU only lets time pass in this step (R350): it is locked, or halted with nothing pending and enabled. -/
def State.waits (s : State) : Bool :=
  s.locked || (s.halted && s.pending == 0)

/-- The T-cycles of a waiting step (R350, R353, R358). -/
def State.waitCost (s : State) : Nat :=
  if s.locked then 4 else 1

/-- Whether the step serves an interrupt (R350, R404). -/
def State.dispatches (s : State) : Bool :=
  s.ime && s.pending != 0

/-- The EI countdown at the end of an executed instruction (R350, R355). -/
def State.countdown (s : State) : State :=
  if s.imeDelay = 0 then s
  else if s.imeDelay = 1 then s.setIme true 0
  else s.setIme s.ime (s.imeDelay - 1)

/-- The address recorded with a STOP's refusal (R422 X1): the one its opcode was fetched at. -/
def State.recordStop (s : State) (a : Word) : State :=
  match s.refused with
  | some (.stopInstruction _) => s.refuse (.stopInstruction a)
  | _ => s

/-- The end of a system step (R81): the devices catch up, unless a fault or a refusal ended the step (R420, R421). -/
def State.endStep (s : State) : State :=
  if s.stopped then s else s.catchUp

/-- The end of a step that executed an instruction fetched at `a`: the EI countdown (R350), then the end of the step. -/
def State.endInstr (s : State) (a : Word) : State :=
  if s.stopped then s.recordStop a else s.countdown.catchUp

/-- The memories and counts an accepted launch request hands over (R9, R700). -/
def launchParameters (q : LaunchRequest) (k : CartKind) : Launch :=
  { kind := k, romBanks := q.romBanks, ramBanks := q.ramBanks, hasRam := q.hasRam, joypad := q.joypad,
    rom := imageFrom Config.openBus 0 q.cart,
    boot := match q.boot with
      | none => []
      | some bs => imageFrom Config.unwritten 0 bs.toList }

/-- A launch (R700): refused, with no machine state, when R10's or R700's checks fail; else the profile's state (R702,
R703). The profile alone decides the state: a boot image given with POST_BOOT is not mapped (log entry 16). -/
def launch (q : LaunchRequest) (i : Init) : Answer :=
  match q.problem, q.kind with
  | some (.unsupportedCartridge b), _ => .refused (.unsupportedCartridge b)
  | some (.oversizedBank n), _ => .refused (.oversizedBank n)
  | some .bootImageMissing, _ => .refused .bootImageMissing
  | none, .unsupported b => .refused (.unsupportedCartridge b)
  | none, .supported k =>
    match q.profile with
    | .boot => .next (State.bootProfile (launchParameters q k) i)
    | .postBoot => .next (State.postBootProfile (launchParameters q k) i)

/-- Whether three bytes from `a` on lie in storage that a fetch reads and that can be filled from outside: the boot and
cartridge images, WRAM, or HRAM (R95). -/
def placeable (a : Nat) : Bool :=
  decide (a ≤ 0x7FFD) || (decide (0xC000 ≤ a) && decide (a ≤ 0xDFFD)) || (decide (0xFF80 ≤ a) && decide (a ≤ 0xFFFC))

/-- A byte placed, from outside the machine, in the storage that a fetch at `a` reads (R90). -/
def State.place (s : State) (a : Nat) (v : Byte) : State :=
  if a < 0x0100 && s.bootMapped then { s with boot := cellSet Config.unwritten s.boot a v }
  else if a ≤ 0x3FFF then { s with cart := { s.cart with rom := cellSet Config.openBus s.cart.rom a v } }
  else if a ≤ 0x7FFF then
    let k := match s.cart.kind with
      | .romOnly => a
      | .mbc1 => s.cart.romBank * Config.romBankSize + (a - 0x4000)
    { s with cart := { s.cart with rom := cellSet Config.openBus s.cart.rom k v } }
  else if a ≤ 0xDFFF then { s with wram := memSet s.wram (a - 0xC000) v }
  else { s with hram := memSet s.hram (a - 0xFF80) v }

/-- The bytes `bs` placed from address `a` on. -/
def State.placeAll (s : State) (a : Nat) (bs : List Byte) : State :=
  match bs with
  | [] => s
  | b :: rest => (s.place a b).placeAll (a + 1) rest

/-- What keeps the next step from fetching at pc, taken away where it holds: a stop mark, the lock, the halted state, the
halt bug, a dispatch, the DMA lockout; and a pc in a region that cannot be filled, moved to 0xC000. -/
def State.readyToFetch (s : State) : State :=
  let pc := if placeable s.regs.pc.toNat then s.regs.pc else 0xC000
  { s.setPc pc with
    faulted := none, refused := none, locked := false, halted := false, haltBug := false,
    ime := s.ime && s.pending == 0,
    ppu := { s.ppu with dmaActive := s.ppu.dmaActive && inHram pc.toNat } }

end Sys2Proof.Machine
end

