-- ==== Sys2Proof/Machine/Alu16.lean ====
section
/-! DEFINITION. 16-bit arithmetic (spec/43_alu16.md R281 to R284). One definition an instruction, over the shapes of
Operands.lean. -/

namespace Sys2Proof.Machine

/-- `INC BC` (03, R282). -/
def execIncBc (s : State) : Answer :=
  loadPair .bc (s.get16 .bc + 1) 8 s

/-- `ADD HL,BC` (09, R281). -/
def execAddHlBc (s : State) : Answer :=
  addHl .bc 8 s

/-- `DEC BC` (0B, R283). -/
def execDecBc (s : State) : Answer :=
  loadPair .bc (s.get16 .bc - 1) 8 s

/-- `INC DE` (13, R282). -/
def execIncDe (s : State) : Answer :=
  loadPair .de (s.get16 .de + 1) 8 s

/-- `ADD HL,DE` (19, R281). -/
def execAddHlDe (s : State) : Answer :=
  addHl .de 8 s

/-- `DEC DE` (1B, R283). -/
def execDecDe (s : State) : Answer :=
  loadPair .de (s.get16 .de - 1) 8 s

/-- `INC HL` (23, R282). -/
def execIncHl (s : State) : Answer :=
  loadPair .hl (s.get16 .hl + 1) 8 s

/-- `ADD HL,HL` (29, R281). -/
def execAddHlHl (s : State) : Answer :=
  addHl .hl 8 s

/-- `DEC HL` (2B, R283). -/
def execDecHl (s : State) : Answer :=
  loadPair .hl (s.get16 .hl - 1) 8 s

/-- `INC SP` (33, R282). -/
def execIncSp (s : State) : Answer :=
  loadPair .sp (s.get16 .sp + 1) 8 s

/-- `ADD HL,SP` (39, R281). -/
def execAddHlSp (s : State) : Answer :=
  addHl .sp 8 s

/-- `DEC SP` (3B, R283). -/
def execDecSp (s : State) : Answer :=
  loadPair .sp (s.get16 .sp - 1) 8 s

/-- `ADD SP,e` (E8, R284). -/
def execAddSpE (e : Byte) (s : State) : Answer :=
  spPlusInto .sp e 16 s

end Sys2Proof.Machine
end

