-- ==== Sys2Proof/Machine/Alu8.lean ====
section
/-! DEFINITION. 8-bit arithmetic and logic (spec/42_alu8.md R251 to R266). One definition an instruction, over the shapes of
Operands.lean. -/

namespace Sys2Proof.Machine

/-- `INC B` (04, R259). -/
def execIncB (s : State) : Answer :=
  modifyReg incByte .b 4 s

/-- `DEC B` (05, R261). -/
def execDecB (s : State) : Answer :=
  modifyReg decByte .b 4 s

/-- `INC C` (0C, R259). -/
def execIncC (s : State) : Answer :=
  modifyReg incByte .c 4 s

/-- `DEC C` (0D, R261). -/
def execDecC (s : State) : Answer :=
  modifyReg decByte .c 4 s

/-- `INC D` (14, R259). -/
def execIncD (s : State) : Answer :=
  modifyReg incByte .d 4 s

/-- `DEC D` (15, R261). -/
def execDecD (s : State) : Answer :=
  modifyReg decByte .d 4 s

/-- `INC E` (1C, R259). -/
def execIncE (s : State) : Answer :=
  modifyReg incByte .e 4 s

/-- `DEC E` (1D, R261). -/
def execDecE (s : State) : Answer :=
  modifyReg decByte .e 4 s

/-- `INC H` (24, R259). -/
def execIncH (s : State) : Answer :=
  modifyReg incByte .h 4 s

/-- `DEC H` (25, R261). -/
def execDecH (s : State) : Answer :=
  modifyReg decByte .h 4 s

/-- `DAA` (27, R263). -/
def execDaa (s : State) : Answer :=
  modifyReg daaByte .a 4 s

/-- `INC L` (2C, R259). -/
def execIncL (s : State) : Answer :=
  modifyReg incByte .l 4 s

/-- `DEC L` (2D, R261). -/
def execDecL (s : State) : Answer :=
  modifyReg decByte .l 4 s

/-- `CPL` (2F, R264). -/
def execCpl (s : State) : Answer :=
  modifyReg cplByte .a 4 s

/-- `INC (HL)` (34, R260). -/
def execIncMemHl (s : State) : Answer :=
  modifyMemHl incByte 12 s

/-- `DEC (HL)` (35, R262). -/
def execDecMemHl (s : State) : Answer :=
  modifyMemHl decByte 12 s

/-- `SCF` (37, R265). -/
def execScf (s : State) : Answer :=
  writeFlags (scfFlags s.flags) 4 s

/-- `INC A` (3C, R259). -/
def execIncA (s : State) : Answer :=
  modifyReg incByte .a 4 s

/-- `DEC A` (3D, R261). -/
def execDecA (s : State) : Answer :=
  modifyReg decByte .a 4 s

/-- `CCF` (3F, R266). -/
def execCcf (s : State) : Answer :=
  writeFlags (ccfFlags s.flags) 4 s

/-- `ADD A,B` (80, R251). -/
def execAddAB (s : State) : Answer :=
  aluWith .add (s.get8 .b) 4 s

/-- `ADD A,C` (81, R251). -/
def execAddAC (s : State) : Answer :=
  aluWith .add (s.get8 .c) 4 s

/-- `ADD A,D` (82, R251). -/
def execAddAD (s : State) : Answer :=
  aluWith .add (s.get8 .d) 4 s

/-- `ADD A,E` (83, R251). -/
def execAddAE (s : State) : Answer :=
  aluWith .add (s.get8 .e) 4 s

/-- `ADD A,H` (84, R251). -/
def execAddAH (s : State) : Answer :=
  aluWith .add (s.get8 .h) 4 s

/-- `ADD A,L` (85, R251). -/
def execAddAL (s : State) : Answer :=
  aluWith .add (s.get8 .l) 4 s

/-- `ADD A,(HL)` (86, R251). -/
def execAddAMemHl (s : State) : Answer :=
  aluWith .add (s.read s.hl) 8 s

/-- `ADD A,A` (87, R251). -/
def execAddAA (s : State) : Answer :=
  aluWith .add (s.get8 .a) 4 s

/-- `ADC A,B` (88, R252). -/
def execAdcAB (s : State) : Answer :=
  aluWith .adc (s.get8 .b) 4 s

/-- `ADC A,C` (89, R252). -/
def execAdcAC (s : State) : Answer :=
  aluWith .adc (s.get8 .c) 4 s

/-- `ADC A,D` (8A, R252). -/
def execAdcAD (s : State) : Answer :=
  aluWith .adc (s.get8 .d) 4 s

/-- `ADC A,E` (8B, R252). -/
def execAdcAE (s : State) : Answer :=
  aluWith .adc (s.get8 .e) 4 s

/-- `ADC A,H` (8C, R252). -/
def execAdcAH (s : State) : Answer :=
  aluWith .adc (s.get8 .h) 4 s

/-- `ADC A,L` (8D, R252). -/
def execAdcAL (s : State) : Answer :=
  aluWith .adc (s.get8 .l) 4 s

/-- `ADC A,(HL)` (8E, R252). -/
def execAdcAMemHl (s : State) : Answer :=
  aluWith .adc (s.read s.hl) 8 s

/-- `ADC A,A` (8F, R252). -/
def execAdcAA (s : State) : Answer :=
  aluWith .adc (s.get8 .a) 4 s

/-- `SUB B` (90, R253). -/
def execSubB (s : State) : Answer :=
  aluWith .sub (s.get8 .b) 4 s

/-- `SUB C` (91, R253). -/
def execSubC (s : State) : Answer :=
  aluWith .sub (s.get8 .c) 4 s

/-- `SUB D` (92, R253). -/
def execSubD (s : State) : Answer :=
  aluWith .sub (s.get8 .d) 4 s

/-- `SUB E` (93, R253). -/
def execSubE (s : State) : Answer :=
  aluWith .sub (s.get8 .e) 4 s

/-- `SUB H` (94, R253). -/
def execSubH (s : State) : Answer :=
  aluWith .sub (s.get8 .h) 4 s

/-- `SUB L` (95, R253). -/
def execSubL (s : State) : Answer :=
  aluWith .sub (s.get8 .l) 4 s

/-- `SUB (HL)` (96, R253). -/
def execSubMemHl (s : State) : Answer :=
  aluWith .sub (s.read s.hl) 8 s

/-- `SUB A` (97, R253). -/
def execSubA (s : State) : Answer :=
  aluWith .sub (s.get8 .a) 4 s

/-- `SBC A,B` (98, R254). -/
def execSbcAB (s : State) : Answer :=
  aluWith .sbc (s.get8 .b) 4 s

/-- `SBC A,C` (99, R254). -/
def execSbcAC (s : State) : Answer :=
  aluWith .sbc (s.get8 .c) 4 s

/-- `SBC A,D` (9A, R254). -/
def execSbcAD (s : State) : Answer :=
  aluWith .sbc (s.get8 .d) 4 s

/-- `SBC A,E` (9B, R254). -/
def execSbcAE (s : State) : Answer :=
  aluWith .sbc (s.get8 .e) 4 s

/-- `SBC A,H` (9C, R254). -/
def execSbcAH (s : State) : Answer :=
  aluWith .sbc (s.get8 .h) 4 s

/-- `SBC A,L` (9D, R254). -/
def execSbcAL (s : State) : Answer :=
  aluWith .sbc (s.get8 .l) 4 s

/-- `SBC A,(HL)` (9E, R254). -/
def execSbcAMemHl (s : State) : Answer :=
  aluWith .sbc (s.read s.hl) 8 s

/-- `SBC A,A` (9F, R254). -/
def execSbcAA (s : State) : Answer :=
  aluWith .sbc (s.get8 .a) 4 s

/-- `AND B` (A0, R255). -/
def execAndB (s : State) : Answer :=
  aluWith .and (s.get8 .b) 4 s

/-- `AND C` (A1, R255). -/
def execAndC (s : State) : Answer :=
  aluWith .and (s.get8 .c) 4 s

/-- `AND D` (A2, R255). -/
def execAndD (s : State) : Answer :=
  aluWith .and (s.get8 .d) 4 s

/-- `AND E` (A3, R255). -/
def execAndE (s : State) : Answer :=
  aluWith .and (s.get8 .e) 4 s

/-- `AND H` (A4, R255). -/
def execAndH (s : State) : Answer :=
  aluWith .and (s.get8 .h) 4 s

/-- `AND L` (A5, R255). -/
def execAndL (s : State) : Answer :=
  aluWith .and (s.get8 .l) 4 s

/-- `AND (HL)` (A6, R255). -/
def execAndMemHl (s : State) : Answer :=
  aluWith .and (s.read s.hl) 8 s

/-- `AND A` (A7, R255). -/
def execAndA (s : State) : Answer :=
  aluWith .and (s.get8 .a) 4 s

/-- `XOR B` (A8, R256). -/
def execXorB (s : State) : Answer :=
  aluWith .xor (s.get8 .b) 4 s

/-- `XOR C` (A9, R256). -/
def execXorC (s : State) : Answer :=
  aluWith .xor (s.get8 .c) 4 s

/-- `XOR D` (AA, R256). -/
def execXorD (s : State) : Answer :=
  aluWith .xor (s.get8 .d) 4 s

/-- `XOR E` (AB, R256). -/
def execXorE (s : State) : Answer :=
  aluWith .xor (s.get8 .e) 4 s

/-- `XOR H` (AC, R256). -/
def execXorH (s : State) : Answer :=
  aluWith .xor (s.get8 .h) 4 s

/-- `XOR L` (AD, R256). -/
def execXorL (s : State) : Answer :=
  aluWith .xor (s.get8 .l) 4 s

/-- `XOR (HL)` (AE, R256). -/
def execXorMemHl (s : State) : Answer :=
  aluWith .xor (s.read s.hl) 8 s

/-- `XOR A` (AF, R256). -/
def execXorA (s : State) : Answer :=
  aluWith .xor (s.get8 .a) 4 s

/-- `OR B` (B0, R257). -/
def execOrB (s : State) : Answer :=
  aluWith .or (s.get8 .b) 4 s

/-- `OR C` (B1, R257). -/
def execOrC (s : State) : Answer :=
  aluWith .or (s.get8 .c) 4 s

/-- `OR D` (B2, R257). -/
def execOrD (s : State) : Answer :=
  aluWith .or (s.get8 .d) 4 s

/-- `OR E` (B3, R257). -/
def execOrE (s : State) : Answer :=
  aluWith .or (s.get8 .e) 4 s

/-- `OR H` (B4, R257). -/
def execOrH (s : State) : Answer :=
  aluWith .or (s.get8 .h) 4 s

/-- `OR L` (B5, R257). -/
def execOrL (s : State) : Answer :=
  aluWith .or (s.get8 .l) 4 s

/-- `OR (HL)` (B6, R257). -/
def execOrMemHl (s : State) : Answer :=
  aluWith .or (s.read s.hl) 8 s

/-- `OR A` (B7, R257). -/
def execOrA (s : State) : Answer :=
  aluWith .or (s.get8 .a) 4 s

/-- `CP B` (B8, R258). -/
def execCpB (s : State) : Answer :=
  aluWith .cp (s.get8 .b) 4 s

/-- `CP C` (B9, R258). -/
def execCpC (s : State) : Answer :=
  aluWith .cp (s.get8 .c) 4 s

/-- `CP D` (BA, R258). -/
def execCpD (s : State) : Answer :=
  aluWith .cp (s.get8 .d) 4 s

/-- `CP E` (BB, R258). -/
def execCpE (s : State) : Answer :=
  aluWith .cp (s.get8 .e) 4 s

/-- `CP H` (BC, R258). -/
def execCpH (s : State) : Answer :=
  aluWith .cp (s.get8 .h) 4 s

/-- `CP L` (BD, R258). -/
def execCpL (s : State) : Answer :=
  aluWith .cp (s.get8 .l) 4 s

/-- `CP (HL)` (BE, R258). -/
def execCpMemHl (s : State) : Answer :=
  aluWith .cp (s.read s.hl) 8 s

/-- `CP A` (BF, R258). -/
def execCpA (s : State) : Answer :=
  aluWith .cp (s.get8 .a) 4 s

/-- `ADD A,n` (C6, R251). -/
def execAddAN (n : Byte) (s : State) : Answer :=
  aluWith .add n 8 s

/-- `ADC A,n` (CE, R252). -/
def execAdcAN (n : Byte) (s : State) : Answer :=
  aluWith .adc n 8 s

/-- `SUB n` (D6, R253). -/
def execSubN (n : Byte) (s : State) : Answer :=
  aluWith .sub n 8 s

/-- `SBC A,n` (DE, R254). -/
def execSbcAN (n : Byte) (s : State) : Answer :=
  aluWith .sbc n 8 s

/-- `AND n` (E6, R255). -/
def execAndN (n : Byte) (s : State) : Answer :=
  aluWith .and n 8 s

/-- `XOR n` (EE, R256). -/
def execXorN (n : Byte) (s : State) : Answer :=
  aluWith .xor n 8 s

/-- `OR n` (F6, R257). -/
def execOrN (n : Byte) (s : State) : Answer :=
  aluWith .or n 8 s

/-- `CP n` (FE, R258). -/
def execCpN (n : Byte) (s : State) : Answer :=
  aluWith .cp n 8 s

end Sys2Proof.Machine
end

