-- ==== Sys2Proof/Machine/Control.lean ====
section
/-! DEFINITION. Jumps, calls, returns and restarts (spec/45_control.md R321 to R331). On entry pc holds the address of the next instruction (R320). One definition an instruction, over the shapes of
Operands.lean. -/

namespace Sys2Proof.Machine

/-- `JR e` (18, R324). -/
def execJr (e : Byte) (s : State) : Answer :=
  jumpTo (s.relative e) 12 s

/-- `JR NZ,e` (20, R325). -/
def execJrNz (e : Byte) (s : State) : Answer :=
  jumpIf .nz (s.relative e) 12 8 s

/-- `JR Z,e` (28, R325). -/
def execJrZ (e : Byte) (s : State) : Answer :=
  jumpIf .z (s.relative e) 12 8 s

/-- `JR NC,e` (30, R325). -/
def execJrNc (e : Byte) (s : State) : Answer :=
  jumpIf .nc (s.relative e) 12 8 s

/-- `JR C,e` (38, R325). -/
def execJrC (e : Byte) (s : State) : Answer :=
  jumpIf .c (s.relative e) 12 8 s

/-- `RET NZ` (C0, R329). -/
def execRetNz (s : State) : Answer :=
  returnIf .nz 20 8 s

/-- `JP NZ,nn` (C2, R322). -/
def execJpNzNn (nn : Word) (s : State) : Answer :=
  jumpIf .nz nn 16 12 s

/-- `JP nn` (C3, R321). -/
def execJpNn (nn : Word) (s : State) : Answer :=
  jumpTo nn 16 s

/-- `CALL NZ,nn` (C4, R327). -/
def execCallNzNn (nn : Word) (s : State) : Answer :=
  callIf .nz nn 24 12 s

/-- `RST 00H` (C7, R331). -/
def execRst00 (s : State) : Answer :=
  callTo 0x00 16 s

/-- `RET Z` (C8, R329). -/
def execRetZ (s : State) : Answer :=
  returnIf .z 20 8 s

/-- `RET` (C9, R328). -/
def execRet (s : State) : Answer :=
  returnWith false 16 s

/-- `JP Z,nn` (CA, R322). -/
def execJpZNn (nn : Word) (s : State) : Answer :=
  jumpIf .z nn 16 12 s

/-- `CALL Z,nn` (CC, R327). -/
def execCallZNn (nn : Word) (s : State) : Answer :=
  callIf .z nn 24 12 s

/-- `CALL nn` (CD, R326). -/
def execCallNn (nn : Word) (s : State) : Answer :=
  callTo nn 24 s

/-- `RST 08H` (CF, R331). -/
def execRst08 (s : State) : Answer :=
  callTo 0x08 16 s

/-- `RET NC` (D0, R329). -/
def execRetNc (s : State) : Answer :=
  returnIf .nc 20 8 s

/-- `JP NC,nn` (D2, R322). -/
def execJpNcNn (nn : Word) (s : State) : Answer :=
  jumpIf .nc nn 16 12 s

/-- `CALL NC,nn` (D4, R327). -/
def execCallNcNn (nn : Word) (s : State) : Answer :=
  callIf .nc nn 24 12 s

/-- `RST 10H` (D7, R331). -/
def execRst10 (s : State) : Answer :=
  callTo 0x10 16 s

/-- `RET C` (D8, R329). -/
def execRetC (s : State) : Answer :=
  returnIf .c 20 8 s

/-- `RETI` (D9, R330). -/
def execReti (s : State) : Answer :=
  returnWith true 16 s

/-- `JP C,nn` (DA, R322). -/
def execJpCNn (nn : Word) (s : State) : Answer :=
  jumpIf .c nn 16 12 s

/-- `CALL C,nn` (DC, R327). -/
def execCallCNn (nn : Word) (s : State) : Answer :=
  callIf .c nn 24 12 s

/-- `RST 18H` (DF, R331). -/
def execRst18 (s : State) : Answer :=
  callTo 0x18 16 s

/-- `RST 20H` (E7, R331). -/
def execRst20 (s : State) : Answer :=
  callTo 0x20 16 s

/-- `JP HL` (E9, R323). -/
def execJpHl (s : State) : Answer :=
  jumpTo s.hl 4 s

/-- `RST 28H` (EF, R331). -/
def execRst28 (s : State) : Answer :=
  callTo 0x28 16 s

/-- `RST 30H` (F7, R331). -/
def execRst30 (s : State) : Answer :=
  callTo 0x30 16 s

/-- `RST 38H` (FF, R331). -/
def execRst38 (s : State) : Answer :=
  callTo 0x38 16 s

end Sys2Proof.Machine
end

