-- ==== Sys2Proof/Machine/Load16.lean ====
section
/-! DEFINITION. The 16-bit loads and the stack (spec/41_load16.md R231 to R237). One definition an instruction, over the shapes of
Operands.lean. -/

namespace Sys2Proof.Machine

/-- `LD BC,nn` (01, R231). -/
def execLdBcNn (nn : Word) (s : State) : Answer :=
  loadPair .bc nn 12 s

/-- `LD (nn),SP` (08, R232). -/
def execLdMemNnSp (nn : Word) (s : State) : Answer :=
  storeSp nn 20 s

/-- `LD DE,nn` (11, R231). -/
def execLdDeNn (nn : Word) (s : State) : Answer :=
  loadPair .de nn 12 s

/-- `LD HL,nn` (21, R231). -/
def execLdHlNn (nn : Word) (s : State) : Answer :=
  loadPair .hl nn 12 s

/-- `LD SP,nn` (31, R231). -/
def execLdSpNn (nn : Word) (s : State) : Answer :=
  loadPair .sp nn 12 s

/-- `POP BC` (C1, R235). -/
def execPopBc (s : State) : Answer :=
  popPair .bc 12 s

/-- `PUSH BC` (C5, R234). -/
def execPushBc (s : State) : Answer :=
  pushPair .bc 16 s

/-- `POP DE` (D1, R235). -/
def execPopDe (s : State) : Answer :=
  popPair .de 12 s

/-- `PUSH DE` (D5, R234). -/
def execPushDe (s : State) : Answer :=
  pushPair .de 16 s

/-- `POP HL` (E1, R235). -/
def execPopHl (s : State) : Answer :=
  popPair .hl 12 s

/-- `PUSH HL` (E5, R234). -/
def execPushHl (s : State) : Answer :=
  pushPair .hl 16 s

/-- `POP AF` (F1, R236). -/
def execPopAf (s : State) : Answer :=
  popAfMasked 12 s

/-- `PUSH AF` (F5, R234). -/
def execPushAf (s : State) : Answer :=
  pushPair .af 16 s

/-- `LD HL,SP+e` (F8, R237). -/
def execLdHlSpE (e : Byte) (s : State) : Answer :=
  spPlusInto .hl e 12 s

/-- `LD SP,HL` (F9, R233). -/
def execLdSpHl (s : State) : Answer :=
  loadPair .sp s.hl 8 s

end Sys2Proof.Machine
end

