-- ==== Sys2Proof/Machine/Load8.lean ====
section
/-! DEFINITION. The 8-bit loads (spec/40_load8.md R201 to R219). One definition an instruction, over the shapes of
Operands.lean. -/

namespace Sys2Proof.Machine

/-- `LD (BC),A` (02, R208). -/
def execLdMemBcA (s : State) : Answer :=
  storeByte s.bc s.regs.a 8 s

/-- `LD B,n` (06, R202). -/
def execLdBN (n : Byte) (s : State) : Answer :=
  loadReg .b n 8 s

/-- `LD A,(BC)` (0A, R206). -/
def execLdAMemBc (s : State) : Answer :=
  loadReg .a (s.read s.bc) 8 s

/-- `LD C,n` (0E, R202). -/
def execLdCN (n : Byte) (s : State) : Answer :=
  loadReg .c n 8 s

/-- `LD (DE),A` (12, R209). -/
def execLdMemDeA (s : State) : Answer :=
  storeByte s.de s.regs.a 8 s

/-- `LD D,n` (16, R202). -/
def execLdDN (n : Byte) (s : State) : Answer :=
  loadReg .d n 8 s

/-- `LD A,(DE)` (1A, R207). -/
def execLdAMemDe (s : State) : Answer :=
  loadReg .a (s.read s.de) 8 s

/-- `LD E,n` (1E, R202). -/
def execLdEN (n : Byte) (s : State) : Answer :=
  loadReg .e n 8 s

/-- `LD (HL+),A` (22, R218). -/
def execLdMemHlIncA (s : State) : Answer :=
  storeAStep 1 8 s

/-- `LD H,n` (26, R202). -/
def execLdHN (n : Byte) (s : State) : Answer :=
  loadReg .h n 8 s

/-- `LD A,(HL+)` (2A, R216). -/
def execLdAMemHlInc (s : State) : Answer :=
  loadAStep 1 8 s

/-- `LD L,n` (2E, R202). -/
def execLdLN (n : Byte) (s : State) : Answer :=
  loadReg .l n 8 s

/-- `LD (HL-),A` (32, R219). -/
def execLdMemHlDecA (s : State) : Answer :=
  storeAStep (-1) 8 s

/-- `LD (HL),n` (36, R205). -/
def execLdMemHlN (n : Byte) (s : State) : Answer :=
  storeByte s.hl n 12 s

/-- `LD A,(HL-)` (3A, R217). -/
def execLdAMemHlDec (s : State) : Answer :=
  loadAStep (-1) 8 s

/-- `LD A,n` (3E, R202). -/
def execLdAN (n : Byte) (s : State) : Answer :=
  loadReg .a n 8 s

/-- `LD B,B` (40, R201). -/
def execLdBB (s : State) : Answer :=
  loadReg .b (s.get8 .b) 4 s

/-- `LD B,C` (41, R201). -/
def execLdBC (s : State) : Answer :=
  loadReg .b (s.get8 .c) 4 s

/-- `LD B,D` (42, R201). -/
def execLdBD (s : State) : Answer :=
  loadReg .b (s.get8 .d) 4 s

/-- `LD B,E` (43, R201). -/
def execLdBE (s : State) : Answer :=
  loadReg .b (s.get8 .e) 4 s

/-- `LD B,H` (44, R201). -/
def execLdBH (s : State) : Answer :=
  loadReg .b (s.get8 .h) 4 s

/-- `LD B,L` (45, R201). -/
def execLdBL (s : State) : Answer :=
  loadReg .b (s.get8 .l) 4 s

/-- `LD B,(HL)` (46, R203). -/
def execLdBMemHl (s : State) : Answer :=
  loadReg .b (s.read s.hl) 8 s

/-- `LD B,A` (47, R201). -/
def execLdBA (s : State) : Answer :=
  loadReg .b (s.get8 .a) 4 s

/-- `LD C,B` (48, R201). -/
def execLdCB (s : State) : Answer :=
  loadReg .c (s.get8 .b) 4 s

/-- `LD C,C` (49, R201). -/
def execLdCC (s : State) : Answer :=
  loadReg .c (s.get8 .c) 4 s

/-- `LD C,D` (4A, R201). -/
def execLdCD (s : State) : Answer :=
  loadReg .c (s.get8 .d) 4 s

/-- `LD C,E` (4B, R201). -/
def execLdCE (s : State) : Answer :=
  loadReg .c (s.get8 .e) 4 s

/-- `LD C,H` (4C, R201). -/
def execLdCH (s : State) : Answer :=
  loadReg .c (s.get8 .h) 4 s

/-- `LD C,L` (4D, R201). -/
def execLdCL (s : State) : Answer :=
  loadReg .c (s.get8 .l) 4 s

/-- `LD C,(HL)` (4E, R203). -/
def execLdCMemHl (s : State) : Answer :=
  loadReg .c (s.read s.hl) 8 s

/-- `LD C,A` (4F, R201). -/
def execLdCA (s : State) : Answer :=
  loadReg .c (s.get8 .a) 4 s

/-- `LD D,B` (50, R201). -/
def execLdDB (s : State) : Answer :=
  loadReg .d (s.get8 .b) 4 s

/-- `LD D,C` (51, R201). -/
def execLdDC (s : State) : Answer :=
  loadReg .d (s.get8 .c) 4 s

/-- `LD D,D` (52, R201). -/
def execLdDD (s : State) : Answer :=
  loadReg .d (s.get8 .d) 4 s

/-- `LD D,E` (53, R201). -/
def execLdDE (s : State) : Answer :=
  loadReg .d (s.get8 .e) 4 s

/-- `LD D,H` (54, R201). -/
def execLdDH (s : State) : Answer :=
  loadReg .d (s.get8 .h) 4 s

/-- `LD D,L` (55, R201). -/
def execLdDL (s : State) : Answer :=
  loadReg .d (s.get8 .l) 4 s

/-- `LD D,(HL)` (56, R203). -/
def execLdDMemHl (s : State) : Answer :=
  loadReg .d (s.read s.hl) 8 s

/-- `LD D,A` (57, R201). -/
def execLdDA (s : State) : Answer :=
  loadReg .d (s.get8 .a) 4 s

/-- `LD E,B` (58, R201). -/
def execLdEB (s : State) : Answer :=
  loadReg .e (s.get8 .b) 4 s

/-- `LD E,C` (59, R201). -/
def execLdEC (s : State) : Answer :=
  loadReg .e (s.get8 .c) 4 s

/-- `LD E,D` (5A, R201). -/
def execLdED (s : State) : Answer :=
  loadReg .e (s.get8 .d) 4 s

/-- `LD E,E` (5B, R201). -/
def execLdEE (s : State) : Answer :=
  loadReg .e (s.get8 .e) 4 s

/-- `LD E,H` (5C, R201). -/
def execLdEH (s : State) : Answer :=
  loadReg .e (s.get8 .h) 4 s

/-- `LD E,L` (5D, R201). -/
def execLdEL (s : State) : Answer :=
  loadReg .e (s.get8 .l) 4 s

/-- `LD E,(HL)` (5E, R203). -/
def execLdEMemHl (s : State) : Answer :=
  loadReg .e (s.read s.hl) 8 s

/-- `LD E,A` (5F, R201). -/
def execLdEA (s : State) : Answer :=
  loadReg .e (s.get8 .a) 4 s

/-- `LD H,B` (60, R201). -/
def execLdHB (s : State) : Answer :=
  loadReg .h (s.get8 .b) 4 s

/-- `LD H,C` (61, R201). -/
def execLdHC (s : State) : Answer :=
  loadReg .h (s.get8 .c) 4 s

/-- `LD H,D` (62, R201). -/
def execLdHD (s : State) : Answer :=
  loadReg .h (s.get8 .d) 4 s

/-- `LD H,E` (63, R201). -/
def execLdHE (s : State) : Answer :=
  loadReg .h (s.get8 .e) 4 s

/-- `LD H,H` (64, R201). -/
def execLdHH (s : State) : Answer :=
  loadReg .h (s.get8 .h) 4 s

/-- `LD H,L` (65, R201). -/
def execLdHL (s : State) : Answer :=
  loadReg .h (s.get8 .l) 4 s

/-- `LD H,(HL)` (66, R203). -/
def execLdHMemHl (s : State) : Answer :=
  loadReg .h (s.read s.hl) 8 s

/-- `LD H,A` (67, R201). -/
def execLdHA (s : State) : Answer :=
  loadReg .h (s.get8 .a) 4 s

/-- `LD L,B` (68, R201). -/
def execLdLB (s : State) : Answer :=
  loadReg .l (s.get8 .b) 4 s

/-- `LD L,C` (69, R201). -/
def execLdLC (s : State) : Answer :=
  loadReg .l (s.get8 .c) 4 s

/-- `LD L,D` (6A, R201). -/
def execLdLD (s : State) : Answer :=
  loadReg .l (s.get8 .d) 4 s

/-- `LD L,E` (6B, R201). -/
def execLdLE (s : State) : Answer :=
  loadReg .l (s.get8 .e) 4 s

/-- `LD L,H` (6C, R201). -/
def execLdLH (s : State) : Answer :=
  loadReg .l (s.get8 .h) 4 s

/-- `LD L,L` (6D, R201). -/
def execLdLL (s : State) : Answer :=
  loadReg .l (s.get8 .l) 4 s

/-- `LD L,(HL)` (6E, R203). -/
def execLdLMemHl (s : State) : Answer :=
  loadReg .l (s.read s.hl) 8 s

/-- `LD L,A` (6F, R201). -/
def execLdLA (s : State) : Answer :=
  loadReg .l (s.get8 .a) 4 s

/-- `LD (HL),B` (70, R204). -/
def execLdMemHlB (s : State) : Answer :=
  storeByte s.hl (s.get8 .b) 8 s

/-- `LD (HL),C` (71, R204). -/
def execLdMemHlC (s : State) : Answer :=
  storeByte s.hl (s.get8 .c) 8 s

/-- `LD (HL),D` (72, R204). -/
def execLdMemHlD (s : State) : Answer :=
  storeByte s.hl (s.get8 .d) 8 s

/-- `LD (HL),E` (73, R204). -/
def execLdMemHlE (s : State) : Answer :=
  storeByte s.hl (s.get8 .e) 8 s

/-- `LD (HL),H` (74, R204). -/
def execLdMemHlH (s : State) : Answer :=
  storeByte s.hl (s.get8 .h) 8 s

/-- `LD (HL),L` (75, R204). -/
def execLdMemHlL (s : State) : Answer :=
  storeByte s.hl (s.get8 .l) 8 s

/-- `LD (HL),A` (77, R204). -/
def execLdMemHlA (s : State) : Answer :=
  storeByte s.hl (s.get8 .a) 8 s

/-- `LD A,B` (78, R201). -/
def execLdAB (s : State) : Answer :=
  loadReg .a (s.get8 .b) 4 s

/-- `LD A,C` (79, R201). -/
def execLdAC (s : State) : Answer :=
  loadReg .a (s.get8 .c) 4 s

/-- `LD A,D` (7A, R201). -/
def execLdAD (s : State) : Answer :=
  loadReg .a (s.get8 .d) 4 s

/-- `LD A,E` (7B, R201). -/
def execLdAE (s : State) : Answer :=
  loadReg .a (s.get8 .e) 4 s

/-- `LD A,H` (7C, R201). -/
def execLdAH (s : State) : Answer :=
  loadReg .a (s.get8 .h) 4 s

/-- `LD A,L` (7D, R201). -/
def execLdAL (s : State) : Answer :=
  loadReg .a (s.get8 .l) 4 s

/-- `LD A,(HL)` (7E, R203). -/
def execLdAMemHl (s : State) : Answer :=
  loadReg .a (s.read s.hl) 8 s

/-- `LD A,A` (7F, R201). -/
def execLdAA (s : State) : Answer :=
  loadReg .a (s.get8 .a) 4 s

/-- `LDH (n),A` (E0, R213). -/
def execLdhMemNA (n : Byte) (s : State) : Answer :=
  storeByte (highPage n) s.regs.a 12 s

/-- `LDH (C),A` (E2, R215). -/
def execLdhMemCA (s : State) : Answer :=
  storeByte (highPage s.regs.c) s.regs.a 8 s

/-- `LD (nn),A` (EA, R211). -/
def execLdMemNnA (nn : Word) (s : State) : Answer :=
  storeByte nn s.regs.a 16 s

/-- `LDH A,(n)` (F0, R212). -/
def execLdhAMemN (n : Byte) (s : State) : Answer :=
  loadReg .a (s.read (highPage n)) 12 s

/-- `LDH A,(C)` (F2, R214). -/
def execLdhAMemC (s : State) : Answer :=
  loadReg .a (s.read (highPage s.regs.c)) 8 s

/-- `LD A,(nn)` (FA, R210). -/
def execLdAMemNn (nn : Word) (s : State) : Answer :=
  loadReg .a (s.read nn) 16 s

end Sys2Proof.Machine
end

