-- ==== Sys2Proof/Machine/RotateBit.lean ====
section
/-! DEFINITION. Rotates, shifts and bit operations (spec/44_rotate_bit.md R291 to R305). One definition an instruction, over the shapes of
Operands.lean. -/

namespace Sys2Proof.Machine

/-- `RLCA` (07, R291). -/
def execRlca (s : State) : Answer :=
  modifyReg (rotateA .rlc) .a 4 s

/-- `RRCA` (0F, R292). -/
def execRrca (s : State) : Answer :=
  modifyReg (rotateA .rrc) .a 4 s

/-- `RLA` (17, R293). -/
def execRla (s : State) : Answer :=
  modifyReg (rotateA .rl) .a 4 s

/-- `RRA` (1F, R294). -/
def execRra (s : State) : Answer :=
  modifyReg (rotateA .rr) .a 4 s

/-- `RLC B` (CB 00, R295). -/
def execRlcB (s : State) : Answer :=
  modifyReg (shiftByte .rlc) .b 8 s

/-- `RLC C` (CB 01, R295). -/
def execRlcC (s : State) : Answer :=
  modifyReg (shiftByte .rlc) .c 8 s

/-- `RLC D` (CB 02, R295). -/
def execRlcD (s : State) : Answer :=
  modifyReg (shiftByte .rlc) .d 8 s

/-- `RLC E` (CB 03, R295). -/
def execRlcE (s : State) : Answer :=
  modifyReg (shiftByte .rlc) .e 8 s

/-- `RLC H` (CB 04, R295). -/
def execRlcH (s : State) : Answer :=
  modifyReg (shiftByte .rlc) .h 8 s

/-- `RLC L` (CB 05, R295). -/
def execRlcL (s : State) : Answer :=
  modifyReg (shiftByte .rlc) .l 8 s

/-- `RLC (HL)` (CB 06, R295). -/
def execRlcMemHl (s : State) : Answer :=
  modifyMemHl (shiftByte .rlc) 16 s

/-- `RLC A` (CB 07, R295). -/
def execRlcA (s : State) : Answer :=
  modifyReg (shiftByte .rlc) .a 8 s

/-- `RRC B` (CB 08, R296). -/
def execRrcB (s : State) : Answer :=
  modifyReg (shiftByte .rrc) .b 8 s

/-- `RRC C` (CB 09, R296). -/
def execRrcC (s : State) : Answer :=
  modifyReg (shiftByte .rrc) .c 8 s

/-- `RRC D` (CB 0A, R296). -/
def execRrcD (s : State) : Answer :=
  modifyReg (shiftByte .rrc) .d 8 s

/-- `RRC E` (CB 0B, R296). -/
def execRrcE (s : State) : Answer :=
  modifyReg (shiftByte .rrc) .e 8 s

/-- `RRC H` (CB 0C, R296). -/
def execRrcH (s : State) : Answer :=
  modifyReg (shiftByte .rrc) .h 8 s

/-- `RRC L` (CB 0D, R296). -/
def execRrcL (s : State) : Answer :=
  modifyReg (shiftByte .rrc) .l 8 s

/-- `RRC (HL)` (CB 0E, R296). -/
def execRrcMemHl (s : State) : Answer :=
  modifyMemHl (shiftByte .rrc) 16 s

/-- `RRC A` (CB 0F, R296). -/
def execRrcA (s : State) : Answer :=
  modifyReg (shiftByte .rrc) .a 8 s

/-- `RL B` (CB 10, R297). -/
def execRlB (s : State) : Answer :=
  modifyReg (shiftByte .rl) .b 8 s

/-- `RL C` (CB 11, R297). -/
def execRlC (s : State) : Answer :=
  modifyReg (shiftByte .rl) .c 8 s

/-- `RL D` (CB 12, R297). -/
def execRlD (s : State) : Answer :=
  modifyReg (shiftByte .rl) .d 8 s

/-- `RL E` (CB 13, R297). -/
def execRlE (s : State) : Answer :=
  modifyReg (shiftByte .rl) .e 8 s

/-- `RL H` (CB 14, R297). -/
def execRlH (s : State) : Answer :=
  modifyReg (shiftByte .rl) .h 8 s

/-- `RL L` (CB 15, R297). -/
def execRlL (s : State) : Answer :=
  modifyReg (shiftByte .rl) .l 8 s

/-- `RL (HL)` (CB 16, R297). -/
def execRlMemHl (s : State) : Answer :=
  modifyMemHl (shiftByte .rl) 16 s

/-- `RL A` (CB 17, R297). -/
def execRlA (s : State) : Answer :=
  modifyReg (shiftByte .rl) .a 8 s

/-- `RR B` (CB 18, R298). -/
def execRrB (s : State) : Answer :=
  modifyReg (shiftByte .rr) .b 8 s

/-- `RR C` (CB 19, R298). -/
def execRrC (s : State) : Answer :=
  modifyReg (shiftByte .rr) .c 8 s

/-- `RR D` (CB 1A, R298). -/
def execRrD (s : State) : Answer :=
  modifyReg (shiftByte .rr) .d 8 s

/-- `RR E` (CB 1B, R298). -/
def execRrE (s : State) : Answer :=
  modifyReg (shiftByte .rr) .e 8 s

/-- `RR H` (CB 1C, R298). -/
def execRrH (s : State) : Answer :=
  modifyReg (shiftByte .rr) .h 8 s

/-- `RR L` (CB 1D, R298). -/
def execRrL (s : State) : Answer :=
  modifyReg (shiftByte .rr) .l 8 s

/-- `RR (HL)` (CB 1E, R298). -/
def execRrMemHl (s : State) : Answer :=
  modifyMemHl (shiftByte .rr) 16 s

/-- `RR A` (CB 1F, R298). -/
def execRrA (s : State) : Answer :=
  modifyReg (shiftByte .rr) .a 8 s

/-- `SLA B` (CB 20, R299). -/
def execSlaB (s : State) : Answer :=
  modifyReg (shiftByte .sla) .b 8 s

/-- `SLA C` (CB 21, R299). -/
def execSlaC (s : State) : Answer :=
  modifyReg (shiftByte .sla) .c 8 s

/-- `SLA D` (CB 22, R299). -/
def execSlaD (s : State) : Answer :=
  modifyReg (shiftByte .sla) .d 8 s

/-- `SLA E` (CB 23, R299). -/
def execSlaE (s : State) : Answer :=
  modifyReg (shiftByte .sla) .e 8 s

/-- `SLA H` (CB 24, R299). -/
def execSlaH (s : State) : Answer :=
  modifyReg (shiftByte .sla) .h 8 s

/-- `SLA L` (CB 25, R299). -/
def execSlaL (s : State) : Answer :=
  modifyReg (shiftByte .sla) .l 8 s

/-- `SLA (HL)` (CB 26, R299). -/
def execSlaMemHl (s : State) : Answer :=
  modifyMemHl (shiftByte .sla) 16 s

/-- `SLA A` (CB 27, R299). -/
def execSlaA (s : State) : Answer :=
  modifyReg (shiftByte .sla) .a 8 s

/-- `SRA B` (CB 28, R300). -/
def execSraB (s : State) : Answer :=
  modifyReg (shiftByte .sra) .b 8 s

/-- `SRA C` (CB 29, R300). -/
def execSraC (s : State) : Answer :=
  modifyReg (shiftByte .sra) .c 8 s

/-- `SRA D` (CB 2A, R300). -/
def execSraD (s : State) : Answer :=
  modifyReg (shiftByte .sra) .d 8 s

/-- `SRA E` (CB 2B, R300). -/
def execSraE (s : State) : Answer :=
  modifyReg (shiftByte .sra) .e 8 s

/-- `SRA H` (CB 2C, R300). -/
def execSraH (s : State) : Answer :=
  modifyReg (shiftByte .sra) .h 8 s

/-- `SRA L` (CB 2D, R300). -/
def execSraL (s : State) : Answer :=
  modifyReg (shiftByte .sra) .l 8 s

/-- `SRA (HL)` (CB 2E, R300). -/
def execSraMemHl (s : State) : Answer :=
  modifyMemHl (shiftByte .sra) 16 s

/-- `SRA A` (CB 2F, R300). -/
def execSraA (s : State) : Answer :=
  modifyReg (shiftByte .sra) .a 8 s

/-- `SWAP B` (CB 30, R301). -/
def execSwapB (s : State) : Answer :=
  modifyReg (shiftByte .swap) .b 8 s

/-- `SWAP C` (CB 31, R301). -/
def execSwapC (s : State) : Answer :=
  modifyReg (shiftByte .swap) .c 8 s

/-- `SWAP D` (CB 32, R301). -/
def execSwapD (s : State) : Answer :=
  modifyReg (shiftByte .swap) .d 8 s

/-- `SWAP E` (CB 33, R301). -/
def execSwapE (s : State) : Answer :=
  modifyReg (shiftByte .swap) .e 8 s

/-- `SWAP H` (CB 34, R301). -/
def execSwapH (s : State) : Answer :=
  modifyReg (shiftByte .swap) .h 8 s

/-- `SWAP L` (CB 35, R301). -/
def execSwapL (s : State) : Answer :=
  modifyReg (shiftByte .swap) .l 8 s

/-- `SWAP (HL)` (CB 36, R301). -/
def execSwapMemHl (s : State) : Answer :=
  modifyMemHl (shiftByte .swap) 16 s

/-- `SWAP A` (CB 37, R301). -/
def execSwapA (s : State) : Answer :=
  modifyReg (shiftByte .swap) .a 8 s

/-- `SRL B` (CB 38, R302). -/
def execSrlB (s : State) : Answer :=
  modifyReg (shiftByte .srl) .b 8 s

/-- `SRL C` (CB 39, R302). -/
def execSrlC (s : State) : Answer :=
  modifyReg (shiftByte .srl) .c 8 s

/-- `SRL D` (CB 3A, R302). -/
def execSrlD (s : State) : Answer :=
  modifyReg (shiftByte .srl) .d 8 s

/-- `SRL E` (CB 3B, R302). -/
def execSrlE (s : State) : Answer :=
  modifyReg (shiftByte .srl) .e 8 s

/-- `SRL H` (CB 3C, R302). -/
def execSrlH (s : State) : Answer :=
  modifyReg (shiftByte .srl) .h 8 s

/-- `SRL L` (CB 3D, R302). -/
def execSrlL (s : State) : Answer :=
  modifyReg (shiftByte .srl) .l 8 s

/-- `SRL (HL)` (CB 3E, R302). -/
def execSrlMemHl (s : State) : Answer :=
  modifyMemHl (shiftByte .srl) 16 s

/-- `SRL A` (CB 3F, R302). -/
def execSrlA (s : State) : Answer :=
  modifyReg (shiftByte .srl) .a 8 s

/-- `BIT 0,B` (CB 40, R303). -/
def execBit0B (s : State) : Answer :=
  writeFlags (bitFlags 0 (s.get8 .b) s.flags) 8 s

/-- `BIT 0,C` (CB 41, R303). -/
def execBit0C (s : State) : Answer :=
  writeFlags (bitFlags 0 (s.get8 .c) s.flags) 8 s

/-- `BIT 0,D` (CB 42, R303). -/
def execBit0D (s : State) : Answer :=
  writeFlags (bitFlags 0 (s.get8 .d) s.flags) 8 s

/-- `BIT 0,E` (CB 43, R303). -/
def execBit0E (s : State) : Answer :=
  writeFlags (bitFlags 0 (s.get8 .e) s.flags) 8 s

/-- `BIT 0,H` (CB 44, R303). -/
def execBit0H (s : State) : Answer :=
  writeFlags (bitFlags 0 (s.get8 .h) s.flags) 8 s

/-- `BIT 0,L` (CB 45, R303). -/
def execBit0L (s : State) : Answer :=
  writeFlags (bitFlags 0 (s.get8 .l) s.flags) 8 s

/-- `BIT 0,(HL)` (CB 46, R303). -/
def execBit0MemHl (s : State) : Answer :=
  writeFlags (bitFlags 0 (s.read s.hl) s.flags) 12 s

/-- `BIT 0,A` (CB 47, R303). -/
def execBit0A (s : State) : Answer :=
  writeFlags (bitFlags 0 (s.get8 .a) s.flags) 8 s

/-- `BIT 1,B` (CB 48, R303). -/
def execBit1B (s : State) : Answer :=
  writeFlags (bitFlags 1 (s.get8 .b) s.flags) 8 s

/-- `BIT 1,C` (CB 49, R303). -/
def execBit1C (s : State) : Answer :=
  writeFlags (bitFlags 1 (s.get8 .c) s.flags) 8 s

/-- `BIT 1,D` (CB 4A, R303). -/
def execBit1D (s : State) : Answer :=
  writeFlags (bitFlags 1 (s.get8 .d) s.flags) 8 s

/-- `BIT 1,E` (CB 4B, R303). -/
def execBit1E (s : State) : Answer :=
  writeFlags (bitFlags 1 (s.get8 .e) s.flags) 8 s

/-- `BIT 1,H` (CB 4C, R303). -/
def execBit1H (s : State) : Answer :=
  writeFlags (bitFlags 1 (s.get8 .h) s.flags) 8 s

/-- `BIT 1,L` (CB 4D, R303). -/
def execBit1L (s : State) : Answer :=
  writeFlags (bitFlags 1 (s.get8 .l) s.flags) 8 s

/-- `BIT 1,(HL)` (CB 4E, R303). -/
def execBit1MemHl (s : State) : Answer :=
  writeFlags (bitFlags 1 (s.read s.hl) s.flags) 12 s

/-- `BIT 1,A` (CB 4F, R303). -/
def execBit1A (s : State) : Answer :=
  writeFlags (bitFlags 1 (s.get8 .a) s.flags) 8 s

/-- `BIT 2,B` (CB 50, R303). -/
def execBit2B (s : State) : Answer :=
  writeFlags (bitFlags 2 (s.get8 .b) s.flags) 8 s

/-- `BIT 2,C` (CB 51, R303). -/
def execBit2C (s : State) : Answer :=
  writeFlags (bitFlags 2 (s.get8 .c) s.flags) 8 s

/-- `BIT 2,D` (CB 52, R303). -/
def execBit2D (s : State) : Answer :=
  writeFlags (bitFlags 2 (s.get8 .d) s.flags) 8 s

/-- `BIT 2,E` (CB 53, R303). -/
def execBit2E (s : State) : Answer :=
  writeFlags (bitFlags 2 (s.get8 .e) s.flags) 8 s

/-- `BIT 2,H` (CB 54, R303). -/
def execBit2H (s : State) : Answer :=
  writeFlags (bitFlags 2 (s.get8 .h) s.flags) 8 s

/-- `BIT 2,L` (CB 55, R303). -/
def execBit2L (s : State) : Answer :=
  writeFlags (bitFlags 2 (s.get8 .l) s.flags) 8 s

/-- `BIT 2,(HL)` (CB 56, R303). -/
def execBit2MemHl (s : State) : Answer :=
  writeFlags (bitFlags 2 (s.read s.hl) s.flags) 12 s

/-- `BIT 2,A` (CB 57, R303). -/
def execBit2A (s : State) : Answer :=
  writeFlags (bitFlags 2 (s.get8 .a) s.flags) 8 s

/-- `BIT 3,B` (CB 58, R303). -/
def execBit3B (s : State) : Answer :=
  writeFlags (bitFlags 3 (s.get8 .b) s.flags) 8 s

/-- `BIT 3,C` (CB 59, R303). -/
def execBit3C (s : State) : Answer :=
  writeFlags (bitFlags 3 (s.get8 .c) s.flags) 8 s

/-- `BIT 3,D` (CB 5A, R303). -/
def execBit3D (s : State) : Answer :=
  writeFlags (bitFlags 3 (s.get8 .d) s.flags) 8 s

/-- `BIT 3,E` (CB 5B, R303). -/
def execBit3E (s : State) : Answer :=
  writeFlags (bitFlags 3 (s.get8 .e) s.flags) 8 s

/-- `BIT 3,H` (CB 5C, R303). -/
def execBit3H (s : State) : Answer :=
  writeFlags (bitFlags 3 (s.get8 .h) s.flags) 8 s

/-- `BIT 3,L` (CB 5D, R303). -/
def execBit3L (s : State) : Answer :=
  writeFlags (bitFlags 3 (s.get8 .l) s.flags) 8 s

/-- `BIT 3,(HL)` (CB 5E, R303). -/
def execBit3MemHl (s : State) : Answer :=
  writeFlags (bitFlags 3 (s.read s.hl) s.flags) 12 s

/-- `BIT 3,A` (CB 5F, R303). -/
def execBit3A (s : State) : Answer :=
  writeFlags (bitFlags 3 (s.get8 .a) s.flags) 8 s

/-- `BIT 4,B` (CB 60, R303). -/
def execBit4B (s : State) : Answer :=
  writeFlags (bitFlags 4 (s.get8 .b) s.flags) 8 s

/-- `BIT 4,C` (CB 61, R303). -/
def execBit4C (s : State) : Answer :=
  writeFlags (bitFlags 4 (s.get8 .c) s.flags) 8 s

/-- `BIT 4,D` (CB 62, R303). -/
def execBit4D (s : State) : Answer :=
  writeFlags (bitFlags 4 (s.get8 .d) s.flags) 8 s

/-- `BIT 4,E` (CB 63, R303). -/
def execBit4E (s : State) : Answer :=
  writeFlags (bitFlags 4 (s.get8 .e) s.flags) 8 s

/-- `BIT 4,H` (CB 64, R303). -/
def execBit4H (s : State) : Answer :=
  writeFlags (bitFlags 4 (s.get8 .h) s.flags) 8 s

/-- `BIT 4,L` (CB 65, R303). -/
def execBit4L (s : State) : Answer :=
  writeFlags (bitFlags 4 (s.get8 .l) s.flags) 8 s

/-- `BIT 4,(HL)` (CB 66, R303). -/
def execBit4MemHl (s : State) : Answer :=
  writeFlags (bitFlags 4 (s.read s.hl) s.flags) 12 s

/-- `BIT 4,A` (CB 67, R303). -/
def execBit4A (s : State) : Answer :=
  writeFlags (bitFlags 4 (s.get8 .a) s.flags) 8 s

/-- `BIT 5,B` (CB 68, R303). -/
def execBit5B (s : State) : Answer :=
  writeFlags (bitFlags 5 (s.get8 .b) s.flags) 8 s

/-- `BIT 5,C` (CB 69, R303). -/
def execBit5C (s : State) : Answer :=
  writeFlags (bitFlags 5 (s.get8 .c) s.flags) 8 s

/-- `BIT 5,D` (CB 6A, R303). -/
def execBit5D (s : State) : Answer :=
  writeFlags (bitFlags 5 (s.get8 .d) s.flags) 8 s

/-- `BIT 5,E` (CB 6B, R303). -/
def execBit5E (s : State) : Answer :=
  writeFlags (bitFlags 5 (s.get8 .e) s.flags) 8 s

/-- `BIT 5,H` (CB 6C, R303). -/
def execBit5H (s : State) : Answer :=
  writeFlags (bitFlags 5 (s.get8 .h) s.flags) 8 s

/-- `BIT 5,L` (CB 6D, R303). -/
def execBit5L (s : State) : Answer :=
  writeFlags (bitFlags 5 (s.get8 .l) s.flags) 8 s

/-- `BIT 5,(HL)` (CB 6E, R303). -/
def execBit5MemHl (s : State) : Answer :=
  writeFlags (bitFlags 5 (s.read s.hl) s.flags) 12 s

/-- `BIT 5,A` (CB 6F, R303). -/
def execBit5A (s : State) : Answer :=
  writeFlags (bitFlags 5 (s.get8 .a) s.flags) 8 s

/-- `BIT 6,B` (CB 70, R303). -/
def execBit6B (s : State) : Answer :=
  writeFlags (bitFlags 6 (s.get8 .b) s.flags) 8 s

/-- `BIT 6,C` (CB 71, R303). -/
def execBit6C (s : State) : Answer :=
  writeFlags (bitFlags 6 (s.get8 .c) s.flags) 8 s

/-- `BIT 6,D` (CB 72, R303). -/
def execBit6D (s : State) : Answer :=
  writeFlags (bitFlags 6 (s.get8 .d) s.flags) 8 s

/-- `BIT 6,E` (CB 73, R303). -/
def execBit6E (s : State) : Answer :=
  writeFlags (bitFlags 6 (s.get8 .e) s.flags) 8 s

/-- `BIT 6,H` (CB 74, R303). -/
def execBit6H (s : State) : Answer :=
  writeFlags (bitFlags 6 (s.get8 .h) s.flags) 8 s

/-- `BIT 6,L` (CB 75, R303). -/
def execBit6L (s : State) : Answer :=
  writeFlags (bitFlags 6 (s.get8 .l) s.flags) 8 s

/-- `BIT 6,(HL)` (CB 76, R303). -/
def execBit6MemHl (s : State) : Answer :=
  writeFlags (bitFlags 6 (s.read s.hl) s.flags) 12 s

/-- `BIT 6,A` (CB 77, R303). -/
def execBit6A (s : State) : Answer :=
  writeFlags (bitFlags 6 (s.get8 .a) s.flags) 8 s

/-- `BIT 7,B` (CB 78, R303). -/
def execBit7B (s : State) : Answer :=
  writeFlags (bitFlags 7 (s.get8 .b) s.flags) 8 s

/-- `BIT 7,C` (CB 79, R303). -/
def execBit7C (s : State) : Answer :=
  writeFlags (bitFlags 7 (s.get8 .c) s.flags) 8 s

/-- `BIT 7,D` (CB 7A, R303). -/
def execBit7D (s : State) : Answer :=
  writeFlags (bitFlags 7 (s.get8 .d) s.flags) 8 s

/-- `BIT 7,E` (CB 7B, R303). -/
def execBit7E (s : State) : Answer :=
  writeFlags (bitFlags 7 (s.get8 .e) s.flags) 8 s

/-- `BIT 7,H` (CB 7C, R303). -/
def execBit7H (s : State) : Answer :=
  writeFlags (bitFlags 7 (s.get8 .h) s.flags) 8 s

/-- `BIT 7,L` (CB 7D, R303). -/
def execBit7L (s : State) : Answer :=
  writeFlags (bitFlags 7 (s.get8 .l) s.flags) 8 s

/-- `BIT 7,(HL)` (CB 7E, R303). -/
def execBit7MemHl (s : State) : Answer :=
  writeFlags (bitFlags 7 (s.read s.hl) s.flags) 12 s

/-- `BIT 7,A` (CB 7F, R303). -/
def execBit7A (s : State) : Answer :=
  writeFlags (bitFlags 7 (s.get8 .a) s.flags) 8 s

/-- `RES 0,B` (CB 80, R304). -/
def execRes0B (s : State) : Answer :=
  loadReg .b (resByte 0 (s.get8 .b)) 8 s

/-- `RES 0,C` (CB 81, R304). -/
def execRes0C (s : State) : Answer :=
  loadReg .c (resByte 0 (s.get8 .c)) 8 s

/-- `RES 0,D` (CB 82, R304). -/
def execRes0D (s : State) : Answer :=
  loadReg .d (resByte 0 (s.get8 .d)) 8 s

/-- `RES 0,E` (CB 83, R304). -/
def execRes0E (s : State) : Answer :=
  loadReg .e (resByte 0 (s.get8 .e)) 8 s

/-- `RES 0,H` (CB 84, R304). -/
def execRes0H (s : State) : Answer :=
  loadReg .h (resByte 0 (s.get8 .h)) 8 s

/-- `RES 0,L` (CB 85, R304). -/
def execRes0L (s : State) : Answer :=
  loadReg .l (resByte 0 (s.get8 .l)) 8 s

/-- `RES 0,(HL)` (CB 86, R304). -/
def execRes0MemHl (s : State) : Answer :=
  storeByte s.hl (resByte 0 (s.read s.hl)) 16 s

/-- `RES 0,A` (CB 87, R304). -/
def execRes0A (s : State) : Answer :=
  loadReg .a (resByte 0 (s.get8 .a)) 8 s

/-- `RES 1,B` (CB 88, R304). -/
def execRes1B (s : State) : Answer :=
  loadReg .b (resByte 1 (s.get8 .b)) 8 s

/-- `RES 1,C` (CB 89, R304). -/
def execRes1C (s : State) : Answer :=
  loadReg .c (resByte 1 (s.get8 .c)) 8 s

/-- `RES 1,D` (CB 8A, R304). -/
def execRes1D (s : State) : Answer :=
  loadReg .d (resByte 1 (s.get8 .d)) 8 s

/-- `RES 1,E` (CB 8B, R304). -/
def execRes1E (s : State) : Answer :=
  loadReg .e (resByte 1 (s.get8 .e)) 8 s

/-- `RES 1,H` (CB 8C, R304). -/
def execRes1H (s : State) : Answer :=
  loadReg .h (resByte 1 (s.get8 .h)) 8 s

/-- `RES 1,L` (CB 8D, R304). -/
def execRes1L (s : State) : Answer :=
  loadReg .l (resByte 1 (s.get8 .l)) 8 s

/-- `RES 1,(HL)` (CB 8E, R304). -/
def execRes1MemHl (s : State) : Answer :=
  storeByte s.hl (resByte 1 (s.read s.hl)) 16 s

/-- `RES 1,A` (CB 8F, R304). -/
def execRes1A (s : State) : Answer :=
  loadReg .a (resByte 1 (s.get8 .a)) 8 s

/-- `RES 2,B` (CB 90, R304). -/
def execRes2B (s : State) : Answer :=
  loadReg .b (resByte 2 (s.get8 .b)) 8 s

/-- `RES 2,C` (CB 91, R304). -/
def execRes2C (s : State) : Answer :=
  loadReg .c (resByte 2 (s.get8 .c)) 8 s

/-- `RES 2,D` (CB 92, R304). -/
def execRes2D (s : State) : Answer :=
  loadReg .d (resByte 2 (s.get8 .d)) 8 s

/-- `RES 2,E` (CB 93, R304). -/
def execRes2E (s : State) : Answer :=
  loadReg .e (resByte 2 (s.get8 .e)) 8 s

/-- `RES 2,H` (CB 94, R304). -/
def execRes2H (s : State) : Answer :=
  loadReg .h (resByte 2 (s.get8 .h)) 8 s

/-- `RES 2,L` (CB 95, R304). -/
def execRes2L (s : State) : Answer :=
  loadReg .l (resByte 2 (s.get8 .l)) 8 s

/-- `RES 2,(HL)` (CB 96, R304). -/
def execRes2MemHl (s : State) : Answer :=
  storeByte s.hl (resByte 2 (s.read s.hl)) 16 s

/-- `RES 2,A` (CB 97, R304). -/
def execRes2A (s : State) : Answer :=
  loadReg .a (resByte 2 (s.get8 .a)) 8 s

/-- `RES 3,B` (CB 98, R304). -/
def execRes3B (s : State) : Answer :=
  loadReg .b (resByte 3 (s.get8 .b)) 8 s

/-- `RES 3,C` (CB 99, R304). -/
def execRes3C (s : State) : Answer :=
  loadReg .c (resByte 3 (s.get8 .c)) 8 s

/-- `RES 3,D` (CB 9A, R304). -/
def execRes3D (s : State) : Answer :=
  loadReg .d (resByte 3 (s.get8 .d)) 8 s

/-- `RES 3,E` (CB 9B, R304). -/
def execRes3E (s : State) : Answer :=
  loadReg .e (resByte 3 (s.get8 .e)) 8 s

/-- `RES 3,H` (CB 9C, R304). -/
def execRes3H (s : State) : Answer :=
  loadReg .h (resByte 3 (s.get8 .h)) 8 s

/-- `RES 3,L` (CB 9D, R304). -/
def execRes3L (s : State) : Answer :=
  loadReg .l (resByte 3 (s.get8 .l)) 8 s

/-- `RES 3,(HL)` (CB 9E, R304). -/
def execRes3MemHl (s : State) : Answer :=
  storeByte s.hl (resByte 3 (s.read s.hl)) 16 s

/-- `RES 3,A` (CB 9F, R304). -/
def execRes3A (s : State) : Answer :=
  loadReg .a (resByte 3 (s.get8 .a)) 8 s

/-- `RES 4,B` (CB A0, R304). -/
def execRes4B (s : State) : Answer :=
  loadReg .b (resByte 4 (s.get8 .b)) 8 s

/-- `RES 4,C` (CB A1, R304). -/
def execRes4C (s : State) : Answer :=
  loadReg .c (resByte 4 (s.get8 .c)) 8 s

/-- `RES 4,D` (CB A2, R304). -/
def execRes4D (s : State) : Answer :=
  loadReg .d (resByte 4 (s.get8 .d)) 8 s

/-- `RES 4,E` (CB A3, R304). -/
def execRes4E (s : State) : Answer :=
  loadReg .e (resByte 4 (s.get8 .e)) 8 s

/-- `RES 4,H` (CB A4, R304). -/
def execRes4H (s : State) : Answer :=
  loadReg .h (resByte 4 (s.get8 .h)) 8 s

/-- `RES 4,L` (CB A5, R304). -/
def execRes4L (s : State) : Answer :=
  loadReg .l (resByte 4 (s.get8 .l)) 8 s

/-- `RES 4,(HL)` (CB A6, R304). -/
def execRes4MemHl (s : State) : Answer :=
  storeByte s.hl (resByte 4 (s.read s.hl)) 16 s

/-- `RES 4,A` (CB A7, R304). -/
def execRes4A (s : State) : Answer :=
  loadReg .a (resByte 4 (s.get8 .a)) 8 s

/-- `RES 5,B` (CB A8, R304). -/
def execRes5B (s : State) : Answer :=
  loadReg .b (resByte 5 (s.get8 .b)) 8 s

/-- `RES 5,C` (CB A9, R304). -/
def execRes5C (s : State) : Answer :=
  loadReg .c (resByte 5 (s.get8 .c)) 8 s

/-- `RES 5,D` (CB AA, R304). -/
def execRes5D (s : State) : Answer :=
  loadReg .d (resByte 5 (s.get8 .d)) 8 s

/-- `RES 5,E` (CB AB, R304). -/
def execRes5E (s : State) : Answer :=
  loadReg .e (resByte 5 (s.get8 .e)) 8 s

/-- `RES 5,H` (CB AC, R304). -/
def execRes5H (s : State) : Answer :=
  loadReg .h (resByte 5 (s.get8 .h)) 8 s

/-- `RES 5,L` (CB AD, R304). -/
def execRes5L (s : State) : Answer :=
  loadReg .l (resByte 5 (s.get8 .l)) 8 s

/-- `RES 5,(HL)` (CB AE, R304). -/
def execRes5MemHl (s : State) : Answer :=
  storeByte s.hl (resByte 5 (s.read s.hl)) 16 s

/-- `RES 5,A` (CB AF, R304). -/
def execRes5A (s : State) : Answer :=
  loadReg .a (resByte 5 (s.get8 .a)) 8 s

/-- `RES 6,B` (CB B0, R304). -/
def execRes6B (s : State) : Answer :=
  loadReg .b (resByte 6 (s.get8 .b)) 8 s

/-- `RES 6,C` (CB B1, R304). -/
def execRes6C (s : State) : Answer :=
  loadReg .c (resByte 6 (s.get8 .c)) 8 s

/-- `RES 6,D` (CB B2, R304). -/
def execRes6D (s : State) : Answer :=
  loadReg .d (resByte 6 (s.get8 .d)) 8 s

/-- `RES 6,E` (CB B3, R304). -/
def execRes6E (s : State) : Answer :=
  loadReg .e (resByte 6 (s.get8 .e)) 8 s

/-- `RES 6,H` (CB B4, R304). -/
def execRes6H (s : State) : Answer :=
  loadReg .h (resByte 6 (s.get8 .h)) 8 s

/-- `RES 6,L` (CB B5, R304). -/
def execRes6L (s : State) : Answer :=
  loadReg .l (resByte 6 (s.get8 .l)) 8 s

/-- `RES 6,(HL)` (CB B6, R304). -/
def execRes6MemHl (s : State) : Answer :=
  storeByte s.hl (resByte 6 (s.read s.hl)) 16 s

/-- `RES 6,A` (CB B7, R304). -/
def execRes6A (s : State) : Answer :=
  loadReg .a (resByte 6 (s.get8 .a)) 8 s

/-- `RES 7,B` (CB B8, R304). -/
def execRes7B (s : State) : Answer :=
  loadReg .b (resByte 7 (s.get8 .b)) 8 s

/-- `RES 7,C` (CB B9, R304). -/
def execRes7C (s : State) : Answer :=
  loadReg .c (resByte 7 (s.get8 .c)) 8 s

/-- `RES 7,D` (CB BA, R304). -/
def execRes7D (s : State) : Answer :=
  loadReg .d (resByte 7 (s.get8 .d)) 8 s

/-- `RES 7,E` (CB BB, R304). -/
def execRes7E (s : State) : Answer :=
  loadReg .e (resByte 7 (s.get8 .e)) 8 s

/-- `RES 7,H` (CB BC, R304). -/
def execRes7H (s : State) : Answer :=
  loadReg .h (resByte 7 (s.get8 .h)) 8 s

/-- `RES 7,L` (CB BD, R304). -/
def execRes7L (s : State) : Answer :=
  loadReg .l (resByte 7 (s.get8 .l)) 8 s

/-- `RES 7,(HL)` (CB BE, R304). -/
def execRes7MemHl (s : State) : Answer :=
  storeByte s.hl (resByte 7 (s.read s.hl)) 16 s

/-- `RES 7,A` (CB BF, R304). -/
def execRes7A (s : State) : Answer :=
  loadReg .a (resByte 7 (s.get8 .a)) 8 s

/-- `SET 0,B` (CB C0, R305). -/
def execSet0B (s : State) : Answer :=
  loadReg .b (setByte 0 (s.get8 .b)) 8 s

/-- `SET 0,C` (CB C1, R305). -/
def execSet0C (s : State) : Answer :=
  loadReg .c (setByte 0 (s.get8 .c)) 8 s

/-- `SET 0,D` (CB C2, R305). -/
def execSet0D (s : State) : Answer :=
  loadReg .d (setByte 0 (s.get8 .d)) 8 s

/-- `SET 0,E` (CB C3, R305). -/
def execSet0E (s : State) : Answer :=
  loadReg .e (setByte 0 (s.get8 .e)) 8 s

/-- `SET 0,H` (CB C4, R305). -/
def execSet0H (s : State) : Answer :=
  loadReg .h (setByte 0 (s.get8 .h)) 8 s

/-- `SET 0,L` (CB C5, R305). -/
def execSet0L (s : State) : Answer :=
  loadReg .l (setByte 0 (s.get8 .l)) 8 s

/-- `SET 0,(HL)` (CB C6, R305). -/
def execSet0MemHl (s : State) : Answer :=
  storeByte s.hl (setByte 0 (s.read s.hl)) 16 s

/-- `SET 0,A` (CB C7, R305). -/
def execSet0A (s : State) : Answer :=
  loadReg .a (setByte 0 (s.get8 .a)) 8 s

/-- `SET 1,B` (CB C8, R305). -/
def execSet1B (s : State) : Answer :=
  loadReg .b (setByte 1 (s.get8 .b)) 8 s

/-- `SET 1,C` (CB C9, R305). -/
def execSet1C (s : State) : Answer :=
  loadReg .c (setByte 1 (s.get8 .c)) 8 s

/-- `SET 1,D` (CB CA, R305). -/
def execSet1D (s : State) : Answer :=
  loadReg .d (setByte 1 (s.get8 .d)) 8 s

/-- `SET 1,E` (CB CB, R305). -/
def execSet1E (s : State) : Answer :=
  loadReg .e (setByte 1 (s.get8 .e)) 8 s

/-- `SET 1,H` (CB CC, R305). -/
def execSet1H (s : State) : Answer :=
  loadReg .h (setByte 1 (s.get8 .h)) 8 s

/-- `SET 1,L` (CB CD, R305). -/
def execSet1L (s : State) : Answer :=
  loadReg .l (setByte 1 (s.get8 .l)) 8 s

/-- `SET 1,(HL)` (CB CE, R305). -/
def execSet1MemHl (s : State) : Answer :=
  storeByte s.hl (setByte 1 (s.read s.hl)) 16 s

/-- `SET 1,A` (CB CF, R305). -/
def execSet1A (s : State) : Answer :=
  loadReg .a (setByte 1 (s.get8 .a)) 8 s

/-- `SET 2,B` (CB D0, R305). -/
def execSet2B (s : State) : Answer :=
  loadReg .b (setByte 2 (s.get8 .b)) 8 s

/-- `SET 2,C` (CB D1, R305). -/
def execSet2C (s : State) : Answer :=
  loadReg .c (setByte 2 (s.get8 .c)) 8 s

/-- `SET 2,D` (CB D2, R305). -/
def execSet2D (s : State) : Answer :=
  loadReg .d (setByte 2 (s.get8 .d)) 8 s

/-- `SET 2,E` (CB D3, R305). -/
def execSet2E (s : State) : Answer :=
  loadReg .e (setByte 2 (s.get8 .e)) 8 s

/-- `SET 2,H` (CB D4, R305). -/
def execSet2H (s : State) : Answer :=
  loadReg .h (setByte 2 (s.get8 .h)) 8 s

/-- `SET 2,L` (CB D5, R305). -/
def execSet2L (s : State) : Answer :=
  loadReg .l (setByte 2 (s.get8 .l)) 8 s

/-- `SET 2,(HL)` (CB D6, R305). -/
def execSet2MemHl (s : State) : Answer :=
  storeByte s.hl (setByte 2 (s.read s.hl)) 16 s

/-- `SET 2,A` (CB D7, R305). -/
def execSet2A (s : State) : Answer :=
  loadReg .a (setByte 2 (s.get8 .a)) 8 s

/-- `SET 3,B` (CB D8, R305). -/
def execSet3B (s : State) : Answer :=
  loadReg .b (setByte 3 (s.get8 .b)) 8 s

/-- `SET 3,C` (CB D9, R305). -/
def execSet3C (s : State) : Answer :=
  loadReg .c (setByte 3 (s.get8 .c)) 8 s

/-- `SET 3,D` (CB DA, R305). -/
def execSet3D (s : State) : Answer :=
  loadReg .d (setByte 3 (s.get8 .d)) 8 s

/-- `SET 3,E` (CB DB, R305). -/
def execSet3E (s : State) : Answer :=
  loadReg .e (setByte 3 (s.get8 .e)) 8 s

/-- `SET 3,H` (CB DC, R305). -/
def execSet3H (s : State) : Answer :=
  loadReg .h (setByte 3 (s.get8 .h)) 8 s

/-- `SET 3,L` (CB DD, R305). -/
def execSet3L (s : State) : Answer :=
  loadReg .l (setByte 3 (s.get8 .l)) 8 s

/-- `SET 3,(HL)` (CB DE, R305). -/
def execSet3MemHl (s : State) : Answer :=
  storeByte s.hl (setByte 3 (s.read s.hl)) 16 s

/-- `SET 3,A` (CB DF, R305). -/
def execSet3A (s : State) : Answer :=
  loadReg .a (setByte 3 (s.get8 .a)) 8 s

/-- `SET 4,B` (CB E0, R305). -/
def execSet4B (s : State) : Answer :=
  loadReg .b (setByte 4 (s.get8 .b)) 8 s

/-- `SET 4,C` (CB E1, R305). -/
def execSet4C (s : State) : Answer :=
  loadReg .c (setByte 4 (s.get8 .c)) 8 s

/-- `SET 4,D` (CB E2, R305). -/
def execSet4D (s : State) : Answer :=
  loadReg .d (setByte 4 (s.get8 .d)) 8 s

/-- `SET 4,E` (CB E3, R305). -/
def execSet4E (s : State) : Answer :=
  loadReg .e (setByte 4 (s.get8 .e)) 8 s

/-- `SET 4,H` (CB E4, R305). -/
def execSet4H (s : State) : Answer :=
  loadReg .h (setByte 4 (s.get8 .h)) 8 s

/-- `SET 4,L` (CB E5, R305). -/
def execSet4L (s : State) : Answer :=
  loadReg .l (setByte 4 (s.get8 .l)) 8 s

/-- `SET 4,(HL)` (CB E6, R305). -/
def execSet4MemHl (s : State) : Answer :=
  storeByte s.hl (setByte 4 (s.read s.hl)) 16 s

/-- `SET 4,A` (CB E7, R305). -/
def execSet4A (s : State) : Answer :=
  loadReg .a (setByte 4 (s.get8 .a)) 8 s

/-- `SET 5,B` (CB E8, R305). -/
def execSet5B (s : State) : Answer :=
  loadReg .b (setByte 5 (s.get8 .b)) 8 s

/-- `SET 5,C` (CB E9, R305). -/
def execSet5C (s : State) : Answer :=
  loadReg .c (setByte 5 (s.get8 .c)) 8 s

/-- `SET 5,D` (CB EA, R305). -/
def execSet5D (s : State) : Answer :=
  loadReg .d (setByte 5 (s.get8 .d)) 8 s

/-- `SET 5,E` (CB EB, R305). -/
def execSet5E (s : State) : Answer :=
  loadReg .e (setByte 5 (s.get8 .e)) 8 s

/-- `SET 5,H` (CB EC, R305). -/
def execSet5H (s : State) : Answer :=
  loadReg .h (setByte 5 (s.get8 .h)) 8 s

/-- `SET 5,L` (CB ED, R305). -/
def execSet5L (s : State) : Answer :=
  loadReg .l (setByte 5 (s.get8 .l)) 8 s

/-- `SET 5,(HL)` (CB EE, R305). -/
def execSet5MemHl (s : State) : Answer :=
  storeByte s.hl (setByte 5 (s.read s.hl)) 16 s

/-- `SET 5,A` (CB EF, R305). -/
def execSet5A (s : State) : Answer :=
  loadReg .a (setByte 5 (s.get8 .a)) 8 s

/-- `SET 6,B` (CB F0, R305). -/
def execSet6B (s : State) : Answer :=
  loadReg .b (setByte 6 (s.get8 .b)) 8 s

/-- `SET 6,C` (CB F1, R305). -/
def execSet6C (s : State) : Answer :=
  loadReg .c (setByte 6 (s.get8 .c)) 8 s

/-- `SET 6,D` (CB F2, R305). -/
def execSet6D (s : State) : Answer :=
  loadReg .d (setByte 6 (s.get8 .d)) 8 s

/-- `SET 6,E` (CB F3, R305). -/
def execSet6E (s : State) : Answer :=
  loadReg .e (setByte 6 (s.get8 .e)) 8 s

/-- `SET 6,H` (CB F4, R305). -/
def execSet6H (s : State) : Answer :=
  loadReg .h (setByte 6 (s.get8 .h)) 8 s

/-- `SET 6,L` (CB F5, R305). -/
def execSet6L (s : State) : Answer :=
  loadReg .l (setByte 6 (s.get8 .l)) 8 s

/-- `SET 6,(HL)` (CB F6, R305). -/
def execSet6MemHl (s : State) : Answer :=
  storeByte s.hl (setByte 6 (s.read s.hl)) 16 s

/-- `SET 6,A` (CB F7, R305). -/
def execSet6A (s : State) : Answer :=
  loadReg .a (setByte 6 (s.get8 .a)) 8 s

/-- `SET 7,B` (CB F8, R305). -/
def execSet7B (s : State) : Answer :=
  loadReg .b (setByte 7 (s.get8 .b)) 8 s

/-- `SET 7,C` (CB F9, R305). -/
def execSet7C (s : State) : Answer :=
  loadReg .c (setByte 7 (s.get8 .c)) 8 s

/-- `SET 7,D` (CB FA, R305). -/
def execSet7D (s : State) : Answer :=
  loadReg .d (setByte 7 (s.get8 .d)) 8 s

/-- `SET 7,E` (CB FB, R305). -/
def execSet7E (s : State) : Answer :=
  loadReg .e (setByte 7 (s.get8 .e)) 8 s

/-- `SET 7,H` (CB FC, R305). -/
def execSet7H (s : State) : Answer :=
  loadReg .h (setByte 7 (s.get8 .h)) 8 s

/-- `SET 7,L` (CB FD, R305). -/
def execSet7L (s : State) : Answer :=
  loadReg .l (setByte 7 (s.get8 .l)) 8 s

/-- `SET 7,(HL)` (CB FE, R305). -/
def execSet7MemHl (s : State) : Answer :=
  storeByte s.hl (setByte 7 (s.read s.hl)) 16 s

/-- `SET 7,A` (CB FF, R305). -/
def execSet7A (s : State) : Answer :=
  loadReg .a (setByte 7 (s.get8 .a)) 8 s

end Sys2Proof.Machine
end

