-- ==== Sys2Proof/Machine/System.lean ====
section
/-! DEFINITION. NOP, HALT, EI, DI, STOP and the illegal opcodes (spec/46_system.md R354 to R359). On entry pc holds the address after the fetched bytes. One definition an instruction, over the shapes of
Operands.lean. -/

namespace Sys2Proof.Machine

/-- `NOP` (00, R354). -/
def execNop (s : State) : Answer :=
  .next (s.tick 4)

/-- `STOP` (10, R359). The mark of R421: pc stays after the first byte, the Clock is not advanced, and `step` takes no further step. -/
def execStop (s : State) : Answer :=
  .next (s.refuse (.stopInstruction s.lastOpcode))

/-- `HALT` (76, R357). -/
def execHalt (s : State) : Answer :=
  .next (s.halt.tick 4)

/-- `ILLEGAL_D3` (D3, R358). -/
def execIllegalD3 (s : State) : Answer :=
  .next (s.lock.tick 4)

/-- `ILLEGAL_DB` (DB, R358). -/
def execIllegalDB (s : State) : Answer :=
  .next (s.lock.tick 4)

/-- `ILLEGAL_DD` (DD, R358). -/
def execIllegalDD (s : State) : Answer :=
  .next (s.lock.tick 4)

/-- `ILLEGAL_E3` (E3, R358). -/
def execIllegalE3 (s : State) : Answer :=
  .next (s.lock.tick 4)

/-- `ILLEGAL_E4` (E4, R358). -/
def execIllegalE4 (s : State) : Answer :=
  .next (s.lock.tick 4)

/-- `ILLEGAL_EB` (EB, R358). -/
def execIllegalEB (s : State) : Answer :=
  .next (s.lock.tick 4)

/-- `ILLEGAL_EC` (EC, R358). -/
def execIllegalEC (s : State) : Answer :=
  .next (s.lock.tick 4)

/-- `ILLEGAL_ED` (ED, R358). -/
def execIllegalED (s : State) : Answer :=
  .next (s.lock.tick 4)

/-- `DI` (F3, R356). -/
def execDi (s : State) : Answer :=
  .next ((s.setIme false 0).tick 4)

/-- `ILLEGAL_F4` (F4, R358). -/
def execIllegalF4 (s : State) : Answer :=
  .next (s.lock.tick 4)

/-- `EI` (FB, R355). The countdown of R350 brings it to 1 at the end of EI itself. -/
def execEi (s : State) : Answer :=
  .next ((s.setIme s.ime 2).tick 4)

/-- `ILLEGAL_FC` (FC, R358). -/
def execIllegalFC (s : State) : Answer :=
  .next (s.lock.tick 4)

/-- `ILLEGAL_FD` (FD, R358). -/
def execIllegalFD (s : State) : Answer :=
  .next (s.lock.tick 4)

end Sys2Proof.Machine
end

