-- ==== Sys2Proof/Machine/Step.lean ====
section
/-! DEFINITION. The system step (spec/20_memory.md R81, spec/46_system.md R350), put together from the parts of Cpu.lean, and
the placing of one instruction where it fetches next. -/

namespace Sys2Proof.Machine

/-- The step of a CPU that is awake (R350): it serves an interrupt, or executes the instruction it fetches. -/
def stepAwake (s : State) : Host.Outcome State Fault Refusal :=
  if s.dispatches then .next s.dispatch.endStep
  else
    match exec s.fetchInstr (s.fetched s.fetchInstr) with
    | .next t => .next (t.endInstr s.regs.pc)
    | .fault r => .fault r
    | .refused r => .refused r

/-- One system step (R81). A marked machine takes none (R420, R421): it answers the reason of its mark. -/
def step (s : State) : Host.Outcome State Fault Refusal :=
  match s.faulted, s.refused with
  | some r, _ => .fault r
  | none, some r => .refused r
  | none, none =>
    if s.waits then .next (s.tick s.waitCost).catchUp else stepAwake s.wake

/-- `s` with the instruction the opcode table numbers as `w` where `step` fetches next. -/
def State.withFetchWord (s : State) (nbits w : Nat) : State :=
  s.readyToFetch.placeAll s.readyToFetch.regs.pc.toNat (tableBytes nbits w)

end Sys2Proof.Machine
end

