-- ==== Sys2Proof/Safety.lean ====
section
/-! DEFINITION. What the claims are stated in: the launch premises and the end of a run (spec/70_reset_and_hazards.md R701,
R740, R741), the invariants every step keeps, and the vocabulary of completion and frames (which addresses a bus write
leaves alone, which it stores at, and when it raises the fault of spec/20_memory.md R113). -/

namespace Sys2Proof.Machine

/-! ### Premises and the end of a run -/

/-- `NoFault` (R701). -/
abbrev State.NoFault (s : State) : Prop :=
  s.faulted = none ∧ s.refused = none

/-- `NothingInFlight` (R701): both profiles list no IF bit. -/
abbrev State.NothingInFlight (s : State) : Prop :=
  s.ppu.dmaActive = false ∧ s.timer.reloadCountdown = 0 ∧ s.imeDelay = 0 ∧ s.halted = false ∧ s.haltBug = false ∧
    s.locked = false ∧ s.iflag = 0

/-- `ConfigAccepted` (R701). -/
abbrev ConfigAccepted (q : LaunchRequest) : Prop :=
  q.problem = none

/-- The state the profile's table gives for the parameters and the draw INIT: `CleanEntry` (R701). -/
def State.entry (pr : Profile) (p : Launch) (i : Init) : State :=
  match pr with
  | .boot => State.bootProfile p i
  | .postBoot => State.postBootProfile p i

/-- The conditions of R740 on a step boundary, for the address END a launch chose. -/
abbrev State.AtEnd (s : State) (endAddr : Word) : Prop :=
  s.regs.pc = endAddr ∧ s.NoFault ∧ s.locked = false ∧ s.halted = false ∧ s.ppu.dmaActive = false ∧
    s.timer.reloadCountdown = 0

/-- The image holds `18 FE` (JR -2) at END and END + 1 (R740; that the image is the cartridge image, read at the bus address
with bank 1 in the switched window, is log entry 14). -/
abbrev HoldsEnd (q : LaunchRequest) (endAddr : Word) : Prop :=
  endAddr.toNat + 1 ≤ 0x7FFF ∧ q.cart[endAddr.toNat]? = some 0x18 ∧ q.cart[endAddr.toNat + 1]? = some 0xFE

/-- A launch that claims speak of (R740): a request, the address END it chose, and the two bytes its image holds there. -/
structure ClaimLaunch where
  request : LaunchRequest
  endAddr : Word
  holdsEnd : HoldsEnd request endAddr
  deriving DecidableEq, Repr

/-- The run from `s` ends after `n` steps in `t`: `t` is the FIRST step boundary, `s` itself counted, that meets the conditions of
R740. -/
def State.EndsAt (s : State) (endAddr : Word) (n : Nat) (t : State) : Prop :=
  Host.Core.run Sys2Proof.core n s = .next t ∧ t.AtEnd endAddr ∧
    ∀ k < n, ∀ u : State, Host.Core.run Sys2Proof.core k s = .next u → ¬ u.AtEnd endAddr

/-- The end of a launch's run for a draw INIT, with the number of steps: its observation is the machine state there (R740). -/
def ClaimLaunch.EndsAt (l : ClaimLaunch) (i : Init) (n : Nat) (t : State) : Prop :=
  ∃ s, launch l.request i = .next s ∧ s.EndsAt l.endAddr n t

/-- The first boundary of R740 within `fuel` steps, computed. -/
def State.firstEnd (endAddr : Word) (fuel : Nat) (s : State) : Option State :=
  if s.AtEnd endAddr then some s
  else match fuel with
    | 0 => none
    | k + 1 =>
      match step s with
      | .next t => State.firstEnd endAddr k t
      | .fault _ => none
      | .refused _ => none

/-- The CPU is awake and fetches in this step: nothing marks the machine, the CPU is neither locked nor idling in the
halted state, and no interrupt is served (R81, R350). -/
abbrev State.Fetches (s : State) : Prop :=
  s.NoFault ∧ s.waits = false ∧ s.dispatches = false

/-! ### Invariants -/

/-- The CPU's legal states: F[3:0] = 0 (R34) and `imeDelay` 0 to 2 (R39). -/
abbrev State.CpuInv (s : State) : Prop :=
  s.regs.f &&& 0x0F = 0 ∧ s.imeDelay ≤ 2

/-- The watermarks equal the Clock at a step boundary (R31). -/
abbrev State.ClockInv (s : State) : Prop :=
  s.ppuLast = s.cycles ∧ s.timerLast = s.cycles

/-- `reloadCountdown` is 0 to 4 (R54). -/
abbrev State.TimerInv (s : State) : Prop :=
  s.timer.reloadCountdown ≤ 4

/-- Every memory and the frame keep their canonical form and size (R45 to R47, R49, R53, R67). -/
abbrev State.MemInv (s : State) : Prop :=
  Memory.wf Config.unwritten Config.wramSize s.wram = true ∧ Memory.wf Config.unwritten Config.hramSize s.hram = true ∧
    Memory.wf Config.unwritten Config.genSize s.gen = true ∧
    Memory.wf Config.unwritten s.cart.cramSize s.cart.cram = true ∧
    Memory.wf Config.unwritten Config.vramSize s.ppu.vram = true ∧
    Memory.wf Config.unwritten Config.oamSize s.ppu.oam = true ∧
    cellsWf (0 : BitVec 2) (Config.screenWidth * Config.screenHeight) s.ppu.frame = true

/-- ROM_BANKS is at least 2 (R9). -/
abbrev State.CartInv (s : State) : Prop :=
  2 ≤ s.cart.romBanks

/-- The mode sequencer's legal states (R502, R531, R58, R63): with the LCD off, mode HBlank, LY 0 and `lineCycles` 0; with it
on, VBlank on exactly the lines 144 to 153, OAMSearch in the first 80 T-cycles of a line and Drawing after them. -/
abbrev Ppu.ModeInv (p : Ppu) : Prop :=
  (p.lcdc.getLsbD 7 = false → p.mode = .hblank ∧ p.ly = 0 ∧ p.lineCycles = 0) ∧
    p.ly.toNat ≤ 153 ∧ (p.mode = .vblank ↔ 144 ≤ p.ly.toNat) ∧
    (p.mode = .oamSearch → p.lineCycles < Config.oamSearchLength) ∧
    (p.mode = .drawing → Config.oamSearchLength ≤ p.lineCycles) ∧
    (p.mode = .vblank → p.lineCycles < Config.lineLength)

/-- The pixel pipeline's bounds (R63 to R66): at most ten selected entries, FIFOs of at most eight, no sprite fetch but in
Drawing, `pixelX` and `discard` in range, a DMA index in range while a transfer runs, its page at most 0xDF. -/
abbrev Ppu.PipeInv (p : Ppu) : Prop :=
  p.oamCount = p.oamBuffer.length ∧ p.oamCount ≤ Config.maxSprites ∧ p.bgFifo.length ≤ 8 ∧ p.sprFifo.length ≤ 8 ∧
    (p.spr.active = true → p.mode = .drawing ∧ p.spr.entry.isSome = true ∧ p.sprFifo.length < 8) ∧
    p.pixelX < Config.screenWidth ∧ p.discard ≤ 7 ∧ -1 ≤ p.windowLine ∧
    (p.dmaActive = true → p.dmaIndex < Config.oamSize) ∧ p.dmaSource.toNat ≤ 0xDF00

/-- All of them. -/
abbrev State.Inv (s : State) : Prop :=
  s.CpuInv ∧ s.ClockInv ∧ s.TimerInv ∧ s.MemInv ∧ s.CartInv ∧ s.ppu.ModeInv ∧ s.ppu.PipeInv

/-! ### Completion and frames -/

/-- `s` with the registers `g` and the Clock advanced by `cost`. -/
def State.advance (s : State) (g : Regs) (cost : Nat) : State :=
  { s with regs := g, cycles := s.cycles + BitVec.ofNat 64 cost }

/-- `i` completes and reaches nothing but the registers, which become `g`, and the Clock: every other field is as before,
and every byte the bus reads is as before. -/
def Completes (i : Instr) (s : State) (g : Regs) (cost : Nat) : Prop :=
  exec i s = .next (s.advance g cost) ∧ ∀ a, (s.advance g cost).read a = s.read a

/-- What no bus write reaches: the Clock and its watermarks, the CPU's registers and control state, the boot and cartridge
images with their counts, the JOYPAD parameter, the refusal mark. -/
structure CpuFrame (s t : State) : Prop where
  regs : t.regs = s.regs
  cycles : t.cycles = s.cycles
  ppuLast : t.ppuLast = s.ppuLast
  timerLast : t.timerLast = s.timerLast
  ime : t.ime = s.ime
  imeDelay : t.imeDelay = s.imeDelay
  halted : t.halted = s.halted
  haltBug : t.haltBug = s.haltBug
  locked : t.locked = s.locked
  boot : t.boot = s.boot
  rom : t.cart.rom = s.cart.rom
  kind : t.cart.kind = s.cart.kind
  romBanks : t.cart.romBanks = s.cart.romBanks
  ramBanks : t.cart.ramBanks = s.cart.ramBanks
  hasRam : t.cart.hasRam = s.cart.hasRam
  joypadParam : t.joypadParam = s.joypadParam
  refused : t.refused = s.refused

/-- Whether the DMA lockout keeps a CPU access at `a` from its device (R92). -/
def State.lockedOut (s : State) (a : Nat) : Bool :=
  s.ppu.dmaActive && !inHram a

/-- The MBC1 control registers' range (R110 to R113). -/
def isMbcControl (a : Nat) : Bool :=
  decide (a ≤ 0x7FFF)

/-- The RAM bank R113 checks after a write of `v` to 0x4000 to 0x7FFF, if the write leaves banking mode 1 with RAM. -/
def Cartridge.bankAfter (c : Cartridge) (a : Nat) (v : Byte) : Nat :=
  (if a ≤ 0x5FFF then v.toNat % 4 else c.mbc.bankHigh.toNat) % 2 ^ ceilLog2 c.ramBanks

/-- When a bus write raises `Fault(MbcRamBankOutOfRange)`, from R113's own words: a write that reaches MBC1 at 0x4000 to
0x7FFF and leaves banking mode 1, with RAM present and a bank index at or above RAM_BANKS. -/
def State.writeFaults (s : State) (a : Nat) (v : Byte) : Bool :=
  !s.lockedOut a && s.cart.kind == .mbc1 && decide (0x4000 ≤ a) && decide (a ≤ 0x7FFF) && s.cart.hasRam &&
    (if a ≤ 0x5FFF then s.cart.mbc.ramBanking else v.getLsbD 0) && decide (s.cart.ramBanks ≤ s.cart.bankAfter a v)

/-- The fault such a write raises. -/
def State.writeFault (s : State) (a : Nat) (v : Byte) : Fault :=
  .mbcRamBankOutOfRange (s.cart.bankAfter a v) s.cart.ramBanks

/-- Addresses whose write changes what other addresses read: the MBC1 registers, LCDC, DMA, the boot lock (R89), and the
joypad port of a JOYPAD with an interrupt policy of its own, which may request at a write (R441). -/
def State.isControl (s : State) (a : Nat) : Bool :=
  (s.cart.kind == .mbc1 && isMbcControl a) || a == 0xFF40 || a == 0xFF46 || a == 0xFF50 ||
    (a == 0xFF00 && !s.joypadParam.requests.isEmpty)

/-- A write at `a` that changes at most what `a` and its alias read: it is dropped, or `a` is no control address. -/
def State.quiet (s : State) (a : Nat) : Bool :=
  s.lockedOut a || !s.isControl a

/-- Two addresses of one byte of storage: the same address, or an address of WRAM and its echo (R45). -/
abbrev SameCell (a b : Nat) : Prop :=
  a = b ∨ (0xC000 ≤ a ∧ a ≤ 0xDDFF ∧ b = a + 0x2000) ∨ (0xC000 ≤ b ∧ b ≤ 0xDDFF ∧ a = b + 0x2000)

/-- The registers that read back exactly what was written: TIMA, TMA, SCY, SCX, LYC, BGP, OBP0, OBP1, WY, WX, IE. -/
def isPlainReg (a : Nat) : Bool :=
  [0xFF05, 0xFF06, 0xFF42, 0xFF43, 0xFF45, 0xFF47, 0xFF48, 0xFF49, 0xFF4A, 0xFF4B, 0xFFFF].contains a

/-- The unnamed addresses GEN backs (R94). -/
def isGen (a : Nat) : Bool :=
  (decide (0xFEA0 ≤ a) && decide (a ≤ 0xFEFF)) || (decide (0xFF01 ≤ a) && decide (a ≤ 0xFF03)) ||
    (decide (0xFF08 ≤ a) && decide (a ≤ 0xFF0E)) || (decide (0xFF10 ≤ a) && decide (a ≤ 0xFF3F)) ||
    (decide (0xFF4C ≤ a) && decide (a ≤ 0xFF4F)) || (decide (0xFF51 ≤ a) && decide (a ≤ 0xFF7F))

/-- Whether a CPU write at `a` stores a byte there that a read gives back: memory with its gate open, or a plain register. -/
def State.storesAt (s : State) (a : Nat) : Bool :=
  !s.lockedOut a &&
    ((decide (0x8000 ≤ a) && decide (a ≤ 0x9FFF) && !s.ppu.vramGated) ||
      (decide (0xA000 ≤ a) && decide (a ≤ 0xBFFF) && s.cart.kind == .mbc1 && s.cart.hasRam && s.cart.mbc.ramEnabled &&
        decide (s.cart.cramIndex a < s.cart.cramSize)) ||
      (decide (0xC000 ≤ a) && decide (a ≤ 0xFDFF)) ||
      (decide (0xFE00 ≤ a) && decide (a ≤ 0xFE9F) && !s.ppu.oamGated) ||
      inHram a || isPlainReg a || isGen a)

/-- The memory part of a one-byte store at `a`: a byte stored there reads back (the memories being in canonical form), and
unless `a` is a control address every byte outside the one stored reads as before. -/
def ByteFrame (s t : State) (a : Word) (v : Byte) : Prop :=
  (s.MemInv → s.storesAt a.toNat = true → t.read a = v) ∧
    (s.quiet a.toNat = true → ∀ b : Word, ¬ SameCell a.toNat b.toNat → t.read b = s.read b)

/-- `i` stores `v` at `a` by one bus write and then leaves the registers `g`. Unless the write raises the fault of R113 it
completes, with the devices as the write left them and the Clock advanced by `cost`; where it raises the fault, the write has
happened and `i` stops there, with no register, no flag and not the Clock touched (R420). -/
def Stores (i : Instr) (s : State) (a : Word) (v : Byte) (g : Regs) (cost : Nat) : Prop :=
  s.faulted = none →
    (s.writeFaults a.toNat v = false →
      ∃ t, exec i s = .next t ∧ t = (s.write a v).advance g cost ∧ CpuFrame s (s.write a v) ∧ t.faulted = none ∧
        ByteFrame s t a v) ∧
    (s.writeFaults a.toNat v = true →
      exec i s = .next (s.write a v) ∧ (s.write a v).faulted = some (s.writeFault a.toNat v) ∧ CpuFrame s (s.write a v))

/-- Two bus writes in a row, the second on what the first left. -/
def State.writeTwice (s : State) (a : Word) (v : Byte) (b : Word) (w : Byte) : State :=
  (s.write a v).write b w

/-- The memory part of a two-byte store at `a` and `b`. -/
def TwoByteFrame (s t : State) (a : Word) (v : Byte) (b : Word) (w : Byte) : Prop :=
  (s.MemInv → s.storesAt a.toNat = true → s.storesAt b.toNat = true → ¬ SameCell a.toNat b.toNat →
      t.read a = v ∧ t.read b = w) ∧
    (s.quiet a.toNat = true → s.quiet b.toNat = true →
      ∀ c : Word, ¬ SameCell a.toNat c.toNat → ¬ SameCell b.toNat c.toNat → t.read c = s.read c)

/-- `i` stores `v` at `a`, then `w` at `b`, and then leaves the registers `g`. Where one of the writes raises the fault of R113,
`i` stops there, with the Clock untouched: a fault of the first write suppresses the second and leaves the registers `g1`, a
fault of the second leaves `g2` (R420). -/
def StoresTwice (i : Instr) (s : State) (a : Word) (v : Byte) (b : Word) (w : Byte) (g g1 g2 : Regs) (cost : Nat) : Prop :=
  s.faulted = none →
    (s.writeFaults a.toNat v = false → (s.write a v).writeFaults b.toNat w = false →
      ∃ t, exec i s = .next t ∧ t = (s.writeTwice a v b w).advance g cost ∧ CpuFrame s (s.writeTwice a v b w) ∧
        t.faulted = none ∧ TwoByteFrame s t a v b w) ∧
    (s.writeFaults a.toNat v = true →
      exec i s = .next { s.write a v with regs := g1 } ∧ (s.write a v).faulted = some (s.writeFault a.toNat v) ∧
        CpuFrame s (s.write a v)) ∧
    (s.writeFaults a.toNat v = false → (s.write a v).writeFaults b.toNat w = true →
      exec i s = .next { s.writeTwice a v b w with regs := g2 } ∧
        (s.writeTwice a v b w).faulted = some ((s.write a v).writeFault b.toNat w) ∧ CpuFrame s (s.writeTwice a v b w))

/-- `i` pushes `v` (R230: the high byte at SP - 1, then the low byte at SP - 2, SP lowered before each) and continues at
`target`; where it stops at a push byte, pc is not changed. -/
def Pushes (i : Instr) (s : State) (v target : Word) (cost : Nat) : Prop :=
  StoresTwice i s (s.regs.sp - 1) (hiByte v) (s.regs.sp - 2) (loByte v)
    { s.regs with sp := s.regs.sp - 2, pc := target } { s.regs with sp := s.regs.sp - 1 }
    { s.regs with sp := s.regs.sp - 2 } cost

/-! ### The rules' own formulas

Written from the rules' pseudocode over bytes, where Flags.lean computes in the integers, so that a claim that an instruction
follows them compares two texts. -/

/-- The field value of a register (R153). -/
def regCode (r : Reg8) : Nat :=
  match r with
  | .b => 0 | .c => 1 | .d => 2 | .e => 3 | .h => 4 | .l => 5 | .a => 7

/-- The field value of a pair of LD rr,nn, INC rr, DEC rr, ADD HL,rr (R154). -/
def pairSpCode (p : PairSp) : Nat :=
  match p with
  | .bc => 0 | .de => 1 | .hl => 2 | .sp => 3

/-- The field value of a pair of PUSH and POP (R154). -/
def pairAfCode (p : PairAf) : Nat :=
  match p with
  | .bc => 0 | .de => 1 | .hl => 2 | .af => 3

/-- The field value of a condition (R155). -/
def condCode (cc : Cond) : Nat :=
  match cc with
  | .nz => 0 | .z => 1 | .nc => 2 | .c => 3

/-- The field value of an arithmetic-logic operation (R156). -/
def aluCode (op : AluOp) : Nat :=
  match op with
  | .add => 0 | .adc => 1 | .sub => 2 | .sbc => 3 | .and => 4 | .xor => 5 | .or => 6 | .cp => 7

/-- The field value of a rotate or shift operation (R156). -/
def shiftCode (op : ShiftOp) : Nat :=
  match op with
  | .rlc => 0 | .rrc => 1 | .rl => 2 | .rr => 3 | .sla => 4 | .sra => 5 | .swap => 6 | .srl => 7

/-- An opcode byte given by its value. -/
def opByte (n : Nat) : Byte := BitVec.ofNat 8 n

/-- A condition on F (R155): Z is bit 7 and C bit 4. -/
def condOn (cc : Cond) (f : Byte) : Bool :=
  match cc with
  | .nz => !f.getLsbD 7
  | .z => f.getLsbD 7
  | .nc => !f.getLsbD 4
  | .c => f.getLsbD 4

/-- The low nibble of a byte, `v & 0x0F`. -/
def nibble (v : Byte) : Nat := (v &&& 0x0F).toNat

/-- The eight operations of R251 to R258: the A and the flags they leave, `c` being the carry before. -/
def ruleAlu (op : AluOp) (a v : Byte) (c : Bool) : Byte × Flags :=
  let k := c.toNat
  match op with
  | .add => (a + v, { z := a + v == 0, n := false, h := decide (nibble a + nibble v > 0x0F), c := decide (a.toNat + v.toNat > 0xFF) })
  | .adc =>
    (a + v + opByte k, { z := a + v + opByte k == 0, n := false, h := decide (nibble a + nibble v + k > 0x0F),
                         c := decide (a.toNat + v.toNat + k > 0xFF) })
  | .sub => (a - v, { z := a - v == 0, n := true, h := decide (nibble a < nibble v), c := decide (a.toNat < v.toNat) })
  | .sbc =>
    (a - v - opByte k, { z := a - v - opByte k == 0, n := true, h := decide (nibble a < nibble v + k),
                         c := decide (a.toNat < v.toNat + k) })
  | .and => (a &&& v, { z := a &&& v == 0, n := false, h := true, c := false })
  | .xor => (a ^^^ v, { z := a ^^^ v == 0, n := false, h := false, c := false })
  | .or => (a ||| v, { z := a ||| v == 0, n := false, h := false, c := false })
  | .cp => (a, { z := a - v == 0, n := true, h := decide (nibble a < nibble v), c := decide (a.toNat < v.toNat) })

/-- DAA, statement by statement as R263 writes it: the A and the flags it leaves. -/
def ruleDaa (a : Byte) (f : Flags) : Byte × Flags :=
  let a0 : Int := a.toNat
  if f.n = false then
    let high : Bool := f.c || decide (a0 > 0x99)
    let a1 : Int := if high then a0 + 0x60 else a0
    let a2 : Int := if f.h || decide (a1 % 16 > 0x09) then a1 + 0x06 else a1
    (BitVec.ofInt 8 a2, { z := BitVec.ofInt 8 a2 == 0, n := false, h := false, c := high })
  else
    let a1 : Int := if f.c then a0 - 0x60 else a0
    let a2 : Int := if f.h then a1 - 0x06 else a1
    (BitVec.ofInt 8 a2, { z := BitVec.ofInt 8 a2 == 0, n := true, h := false, c := f.c })

/-- The rotates and shifts of R295 to R302: the result and the carry they leave, `c` being the carry before. -/
def ruleShift (op : ShiftOp) (v : Byte) (c : Bool) : Byte × Bool :=
  let k : Byte := opByte c.toNat
  match op with
  | .rlc => ((v <<< 1) ||| (v >>> 7), v >>> 7 == 1)
  | .rrc => ((v >>> 1) ||| ((v &&& 1) <<< 7), v &&& 1 == 1)
  | .rl => ((v <<< 1) ||| k, v >>> 7 == 1)
  | .rr => ((v >>> 1) ||| (k <<< 7), v &&& 1 == 1)
  | .sla => (v <<< 1, v >>> 7 == 1)
  | .sra => ((v >>> 1) ||| (v &&& 0x80), v &&& 1 == 1)
  | .swap => (((v &&& 0x0F) <<< 4) ||| (v >>> 4), false)
  | .srl => (v >>> 1, v &&& 1 == 1)

/-- The H and C of ADD SP,e and LD HL,SP+e (R237): those of the unsigned sum of SP's low byte and the byte e. -/
def ruleSpFlags (sp : Word) (e : Byte) : Flags :=
  { z := false, n := false, h := decide ((sp &&& 0x000F).toNat + nibble e > 0x0F),
    c := decide ((sp &&& 0x00FF).toNat + e.toNat > 0xFF) }

/-- `romBank()` as R112 writes it. -/
def ruleRomBank (bankLow : BitVec 5) (bankHigh : BitVec 2) (ramBanking : Bool) (romBanks : Nat) : Nat :=
  let romBits := ceilLog2 romBanks
  let low := if bankLow = 0 then 1 else bankLow.toNat
  if romBits > 5 then ((if ramBanking then 0 else bankHigh.toNat) <<< 5) ||| low
  else
    let b := low &&& ((1 <<< romBits) - 1)
    if b = 0 then 1 else b

/-- `ramBank()` as R114 writes it. -/
def ruleRamBank (bankHigh : BitVec 2) (ramBanking hasRam : Bool) (ramBanks : Nat) : Nat :=
  if ramBanking && hasRam then bankHigh.toNat &&& ((1 <<< ceilLog2 ramBanks) - 1) else 0

/-- The packed decimal byte of a number below 100. -/
def bcd (n : Nat) : Byte := BitVec.ofNat 8 (16 * (n / 10) + n % 10)

/-- Whether button `k` is held. -/
def held (p : Buttons) (k : Button) : Bool :=
  match k with
  | .right => p.right | .left => p.left | .up => p.up | .down => p.down
  | .a => p.a | .b => p.b | .select => p.select | .start => p.start

/-- Line `i` of the default joypad (R440): 0 when a selected group's button of that line is held; the groups are Right, Left, Up,
Down with `sel[0] = 0` and A, B, Select, Start with `sel[1] = 0`. -/
def ruleLine (j : Joypad) (i : Fin 4) : Bool :=
  let dir : Button := match i with | 0 => .right | 1 => .left | 2 => .up | 3 => .down
  let act : Button := match i with | 0 => .a | 1 => .b | 2 => .select | 3 => .start
  !((!j.sel.getLsbD 0 && held j.pressed dir) || (!j.sel.getLsbD 1 && held j.pressed act))

/-- What no step ever changes (R9, R51): the images, the counts, the cartridge kind and the JOYPAD parameter. -/
abbrev SameLaunch (s t : State) : Prop :=
  t.boot = s.boot ∧ t.cart.rom = s.cart.rom ∧ t.cart.kind = s.cart.kind ∧ t.cart.romBanks = s.cart.romBanks ∧
    t.cart.ramBanks = s.cart.ramBanks ∧ t.cart.hasRam = s.cart.hasRam ∧ t.joypadParam = s.joypadParam

end Sys2Proof.Machine
end

