-- ==== Sys2Proof/Certificates/Slice0/Obligations.lean ====
section
/-! DEFINITION. The statements for the provers, one `def Obligations.<Name> : Prop` each, in the order of OBLIGATIONS.json:
encoding, the step, interrupts and the CPU's control state, then the instructions family by family, the bus, the cartridge,
the devices, the launch, and the invariants. Each docstring names the rules of spec/ it rests on. The vocabulary is that of
Safety.lean. -/

open Sys2Proof Sys2Proof.Machine

/-! ### Encoding -/

/-- Decoding an encoded instruction gives it back, with every operand at every value, whatever follows it (R151, R161, R162,
R165). -/
def Obligations.DecodeEncode : Prop :=
  ∀ (i : Instr) (rest : List Byte), i.wf = true → decode (encode i ++ rest) = .ok (i, rest)

/-- The other direction: bytes that decode are the encoding of what they decode to, but for STOP's second byte, which is
ignored (R151); three bytes always decode (R165), and to a well-formed instruction of the length its first byte gives. -/
def Obligations.EncodeDecode : Prop :=
  (∀ (bs rest : List Byte) (i : Instr), decode bs = .ok (i, rest) →
    i.wf = true ∧ (i ≠ .stop → bs = encode i ++ rest) ∧ (i = .stop → ∃ x, bs = 0x10 :: x :: rest)) ∧
  ∀ (b0 b1 b2 : Byte) (rest : List Byte), ∃ i tail,
    decode (b0 :: b1 :: b2 :: rest) = .ok (i, tail) ∧ i.length = opcodeLength b0

/-- Words written out from the opcode maps decode to the instructions the maps name (R161, R162, R163). -/
def Obligations.SpecWordsDecode : Prop :=
  decode [0x00] = .ok (.nop, []) ∧ decode [0x08, 0x00, 0xC1] = .ok (.ldMemNnSp 0xC100, []) ∧
    decode [0x20, 0xFC] = .ok (.jrNz 0xFC, []) ∧ decode [0x36, 0x01] = .ok (.ldMemHlN 0x01, []) ∧
    decode [0x78] = .ok (.ldAB, []) ∧ decode [0x76] = .ok (.halt, []) ∧ decode [0x9C] = .ok (.sbcAH, []) ∧
    decode [0xC3, 0x50, 0x01] = .ok (.jpNn 0x0150, []) ∧ decode [0xD3] = .ok (.illegalD3, []) ∧
    decode [0xE8, 0xFE] = .ok (.addSpE 0xFE, []) ∧ decode [0xF0, 0x0F] = .ok (.ldhAMemN 0x0F, []) ∧
    decode [0xCB, 0x37] = .ok (.swapA, []) ∧ decode [0xCB, 0x7E] = .ok (Instr.bitMemHl 7, []) ∧
    decode [0xCB, 0x9F] = .ok (Instr.resReg 3 .a, [])

/-! ### The step -/

/-- A step that fetches runs the decoded instruction: the bytes at pc decode to `i`, pc is moved past the bytes fetched (one
for STOP, log entry 6), the halted state is left, `exec` runs, and `endInstr` does what R350 and R81 put after it (R165,
R351). -/
def Obligations.StepRunsDecoded : Prop :=
  ∀ (s : State) (i : Instr) (rest : List Byte), s.Fetches → s.haltBug = false →
    decode [s.read s.regs.pc, s.read (s.regs.pc + 1), s.read (s.regs.pc + 2)] = .ok (i, rest) → i.wf = true →
    step s =
      match exec i { s.setPc (s.regs.pc + BitVec.ofNat 16 (1 + fetchedOperands i)) with halted := false } with
      | .next t => .next (t.endInstr s.regs.pc)
      | .fault r => .fault r
      | .refused r => .refused r

/-- With the halt bug armed the opcode is read without moving pc, so that a longer instruction reads its opcode byte again as
its first operand byte; the bug is then disarmed (R352). That STOP fetches no operand byte, so that pc does not move for it at all,
is the model's choice (log entry 6). -/
def Obligations.HaltBugFetch : Prop :=
  ∀ (s : State) (i : Instr) (rest : List Byte), s.Fetches → s.haltBug = true →
    decode [s.read s.regs.pc, s.read s.regs.pc, s.read (s.regs.pc + 1)] = .ok (i, rest) →
    step s =
      match exec i { s.setPc (s.regs.pc + BitVec.ofNat 16 (fetchedOperands i)) with halted := false, haltBug := false } with
      | .next t => .next (t.endInstr s.regs.pc)
      | .fault r => .fault r
      | .refused r => .refused r

/-- A marked machine takes no step: it answers its fault, or its refusal (R81, R420, R421). -/
def Obligations.MarkedTakesNoStep : Prop :=
  ∀ s : State, (∀ r, s.faulted = some r → step s = .fault r) ∧
    (∀ r, s.faulted = none → s.refused = some r → step s = .refused r)

/-- The halted state: with nothing pending and enabled a step only lets one T-cycle pass; otherwise the CPU wakes in this step,
and dispatches with IME = 1 or executes the instruction after HALT with IME = 0 (R353). -/
def Obligations.HaltedStep : Prop :=
  ∀ s : State, s.NoFault → s.locked = false → s.halted = true →
    (s.pending = 0 → step s = .next (s.tick 1).catchUp) ∧
    (s.pending ≠ 0 → s.ime = true → step s = .next { s with halted := false }.dispatch.endStep) ∧
    (s.pending ≠ 0 → s.ime = false → step s = step { s with halted := false })

/-- A halted CPU with no source enabled never wakes: after any number of steps it is still halted, its registers are as they
were, and the Clock has advanced one T-cycle a step; so no such run has an end (R741, R353, R740). -/
def Obligations.HaltWithoutEnableHangs : Prop :=
  ∀ (n : Nat) (s : State), s.NoFault → s.locked = false → s.halted = true → s.ie &&& 0x1F = 0 →
    (∃ t : State, Host.Core.run Sys2Proof.core n s = .next t ∧ t.halted = true ∧ t.regs = s.regs ∧
      t.cycles = s.cycles + BitVec.ofNat 64 n ∧ t.NoFault) ∧
    ∀ (e : Word) (t : State), ¬ s.EndsAt e n t

/-- An illegal opcode is fetched, so that pc stands after it, and locks the CPU at a cost of 4, and from then on every step lets
4 T-cycles pass, fetching nothing, serving nothing and leaving the CPU's registers, for ever (R358, R163). -/
def Obligations.IllegalLocks : Prop :=
  (∀ (k : Fin 11) (s : State),
    encode (.illegal k) =
        [opByte ([0xD3, 0xDB, 0xDD, 0xE3, 0xE4, 0xEB, 0xEC, 0xED, 0xF4, 0xFC, 0xFD].getD k.val 0)] ∧
      exec (.illegal k) s = .next { s with locked := true, cycles := s.cycles + 4 } ∧
      (∀ a, { s with locked := true, cycles := s.cycles + 4 }.read a = s.read a) ∧
      (s.Fetches → s.haltBug = false → s.fetchInstr = .illegal k →
        ∃ t, step s = .next t ∧ t.locked = true ∧ t.regs = { s.regs with pc := s.regs.pc + 1 } ∧ t.cycles = s.cycles + 4)) ∧
  ∀ (n : Nat) (s : State), s.NoFault → s.locked = true →
    step s = .next (s.tick 4).catchUp ∧
      ∃ t : State, Host.Core.run Sys2Proof.core n s = .next t ∧ t.locked = true ∧ t.regs = s.regs ∧ t.ime = s.ime ∧
        t.imeDelay = s.imeDelay ∧ t.halted = s.halted ∧ t.haltBug = s.haltBug ∧
        t.cycles = s.cycles + BitVec.ofNat 64 (4 * n) ∧ t.NoFault

/-! ### Interrupts and control state -/

/-- Taking an interrupt: with IME = 1 the lowest pending and enabled source `k` is served. IME and a pending EI are cleared and
IF bit `k`, before the pushes; PC is pushed, high byte first; PC becomes 0x0040 + 8 k; 20 T-cycles are charged, and the devices
then catch up; a push byte that raises the fault of R113 stops the dispatch there (R405, R406, R407, R408, R420). -/
def Obligations.DispatchServesLowest : Prop :=
  ∀ (s : State) (k : Fin 5), s.NoFault → s.locked = false → s.ime = true →
    s.ie.getLsbD k = true → s.iflag.getLsbD k = true →
    (∀ j : Fin 5, j < k → s.ie.getLsbD j = false ∨ s.iflag.getLsbD j = false) →
    let u : State := { s with ime := false, imeDelay := 0, halted := false, iflag := s.iflag &&& ~~~((1 : BitVec 5) <<< k.val) }
    let hi := hiByte s.regs.pc
    let lo := loByte s.regs.pc
    let served := u.writeTwice (s.regs.sp - 1) hi (s.regs.sp - 2) lo
    (u.writeFaults (s.regs.sp - 1).toNat hi = false →
      (u.write (s.regs.sp - 1) hi).writeFaults (s.regs.sp - 2).toNat lo = false →
      ∃ t, step s = .next t.catchUp ∧
        t = served.advance { s.regs with sp := s.regs.sp - 2, pc := BitVec.ofNat 16 (0x0040 + 8 * k.val) } 20 ∧
        t.ime = false ∧ t.imeDelay = 0 ∧ t.halted = false ∧ t.haltBug = s.haltBug ∧ t.faulted = none ∧
        TwoByteFrame u t (s.regs.sp - 1) hi (s.regs.sp - 2) lo) ∧
    (u.writeFaults (s.regs.sp - 1).toNat hi = true →
      step s = .next { u.write (s.regs.sp - 1) hi with regs := { s.regs with sp := s.regs.sp - 1 } } ∧
        (u.write (s.regs.sp - 1) hi).faulted = some (u.writeFault (s.regs.sp - 1).toNat hi)) ∧
    (u.writeFaults (s.regs.sp - 1).toNat hi = false →
      (u.write (s.regs.sp - 1) hi).writeFaults (s.regs.sp - 2).toNat lo = true →
      step s = .next { served with regs := { s.regs with sp := s.regs.sp - 2 } } ∧
        served.faulted = some ((u.write (s.regs.sp - 1) hi).writeFault (s.regs.sp - 2).toNat lo))

/-- NOP only costs 4; DI clears IME and cancels a pending EI; HALT halts, or arms the halt bug when IME is 0 and
an enabled interrupt is pending; none of them changes a byte of memory (R354, R356, R357). -/
def Obligations.SystemInstructions : Prop :=
  ∀ s : State,
    let afterDi : State := { s with ime := false, imeDelay := 0, cycles := s.cycles + 4 }
    let afterHalt : State :=
      if s.ime = false ∧ s.ie.setWidth 5 &&& s.iflag ≠ 0 then { s with haltBug := true, cycles := s.cycles + 4 }
      else { s with halted := true, cycles := s.cycles + 4 }
    (encode .nop = [0x00] ∧ Completes .nop s s.regs 4) ∧
    (encode .di = [0xF3] ∧ exec .di s = .next afterDi ∧ ∀ a, afterDi.read a = s.read a) ∧
    (encode .halt = [0x76] ∧ exec .halt s = .next afterHalt ∧ ∀ a, afterHalt.read a = s.read a)

/-- EI arms the delayed enable and changes nothing else at a cost of 4. It takes effect after one more instruction: the step that
executes EI leaves IME as it was, and the next step, whatever instruction other than EI or DI it executes, ends with IME = 1 unless
it stops; DI there cancels it (R355). Last clause: after an instruction that did not stop, the countdown takes `imeDelay` from 2
to 1 and from 1 to 0 with IME set, and the devices catch up; after one that stopped, neither happens (R350, R81). -/
def Obligations.EiTakesEffectAfterOneInstruction : Prop :=
  (∀ s : State,
    let afterEi : State := { s with imeDelay := 2, cycles := s.cycles + 4 }
    encode .ei = [0xFB] ∧ exec .ei s = .next afterEi ∧ ∀ a, afterEi.read a = s.read a) ∧
  (∀ s : State, s.Fetches → s.imeDelay = 0 → s.fetchInstr = .ei →
    ∃ t, step s = .next t ∧ t.ime = s.ime ∧ t.imeDelay = 1) ∧
  (∀ s t : State, s.Fetches → s.imeDelay = 1 → s.fetchInstr ≠ .ei → s.fetchInstr ≠ .di → step s = .next t →
    t.stopped = false → t.ime = true ∧ t.imeDelay = 0) ∧
  (∀ s : State, s.Fetches → s.fetchInstr = .di → ∃ t, step s = .next t ∧ t.ime = false ∧ t.imeDelay = 0) ∧
  ∀ (t : State) (a : Word),
    (t.stopped = false →
      (t.endInstr a).regs = t.regs ∧ (t.endInstr a).cycles = t.cycles ∧
        (t.endInstr a).ppuLast = t.cycles ∧ (t.endInstr a).timerLast = t.cycles ∧
        (t.endInstr a).halted = t.halted ∧ (t.endInstr a).haltBug = t.haltBug ∧ (t.endInstr a).locked = t.locked ∧
        (t.endInstr a).imeDelay = t.imeDelay - 1 ∧ (t.endInstr a).ime = (t.ime || t.imeDelay == 1) ∧
        (t.endInstr a).stopped = false) ∧
    (t.stopped = true → (t.endInstr a).regs = t.regs ∧ (t.endInstr a).cycles = t.cycles ∧
      (t.endInstr a).ime = t.ime ∧ (t.endInstr a).imeDelay = t.imeDelay ∧
      (t.endInstr a).ppuLast = t.ppuLast ∧ (t.endInstr a).timerLast = t.timerLast ∧
      (t.endInstr a).timer = t.timer ∧ (t.endInstr a).ppu = t.ppu ∧ (t.endInstr a).stopped = true)

/-- STOP is refused: the mark records its address, pc stands after its first byte, and the Clock is not advanced; the step after
that one is the refusal (R359, R421, R422; that only the first byte is fetched is the model's reading, log entry 6). -/
def Obligations.StopIsRefused : Prop :=
  (∀ s : State, encode .stop = [0x10, 0x00] ∧
    exec .stop s = .next { s with refused := some (.stopInstruction (s.regs.pc - 1)) }) ∧
  ∀ s : State, s.Fetches → s.haltBug = false → s.fetchInstr = .stop →
    ∃ t, step s = .next t ∧ t.refused = some (.stopInstruction s.regs.pc) ∧ t.regs = { s.regs with pc := s.regs.pc + 1 } ∧
      t.cycles = s.cycles ∧ (∀ a, t.read a = s.read a) ∧ step t = .refused (.stopInstruction s.regs.pc)

/-! ### The register file -/

/-- A pair is one 16-bit value whose high byte is its first register and low byte its second; writing a pair writes both,
writing a byte register changes only that byte (R33). F holds Z in bit 7, N in 6, H in 5, C in 4, and a written F has bits 3 to 0
zero (R34). -/
def Obligations.RegisterFile : Prop :=
  (∀ f : Flags, f.pack.getLsbD 7 = f.z ∧ f.pack.getLsbD 6 = f.n ∧ f.pack.getLsbD 5 = f.h ∧ f.pack.getLsbD 4 = f.c ∧
    f.pack &&& 0x0F = 0 ∧ flagsOf f.pack = f) ∧
  ∀ (g : Regs) (r q : Reg8) (p : Reg16) (v : Byte) (w : Word),
    (g.set8 r v).get8 r = v ∧ (q ≠ r → (g.set8 r v).get8 q = g.get8 q) ∧
    (g.set8 r v).f = g.f ∧ (g.set8 r v).sp = g.sp ∧ (g.set8 r v).pc = g.pc ∧
    (g.set16 p w).get16 p = w ∧
    (g.get16 .bc).toNat = 256 * g.b.toNat + g.c.toNat ∧ (g.get16 .de).toNat = 256 * g.d.toNat + g.e.toNat ∧
    (g.get16 .hl).toNat = 256 * g.h.toNat + g.l.toNat ∧ (g.get16 .af).toNat = 256 * g.a.toNat + g.f.toNat ∧
    g.set16 .bc w = { g with b := (w >>> 8).setWidth 8, c := w.setWidth 8 } ∧
    g.set16 .de w = { g with d := (w >>> 8).setWidth 8, e := w.setWidth 8 } ∧
    g.set16 .hl w = { g with h := (w >>> 8).setWidth 8, l := w.setWidth 8 } ∧
    g.set16 .af w = { g with a := (w >>> 8).setWidth 8, f := w.setWidth 8 } ∧
    g.set16 .sp w = { g with sp := w }

/-! ### Loads -/

/-- LD r,r' and LD r,n, LD rr,nn and LD SP,HL write their register and nothing else (R201, R202, R231, R233). -/
def Obligations.RegisterLoads : Prop :=
  ∀ (s : State) (r q : Reg8) (p : PairSp) (n : Byte) (nn : Word),
    (encode (.ldRegReg r q) = [opByte (0x40 + 8 * regCode r + regCode q)] ∧
      Completes (.ldRegReg r q) s (s.regs.set8 r (s.regs.get8 q)) 4) ∧
    (encode (.ldRegN r n) = [opByte (0x06 + 8 * regCode r), n] ∧ Completes (.ldRegN r n) s (s.regs.set8 r n) 8) ∧
    (encode (.ldPairNn p nn) = [opByte (0x01 + 16 * pairSpCode p), loByte nn, hiByte nn] ∧
      Completes (.ldPairNn p nn) s (s.regs.set16 (pairSpReg p) nn) 12) ∧
    (encode .ldSpHl = [0xF9] ∧ Completes .ldSpHl s { s.regs with sp := s.regs.get16 .hl } 8)

/-- The loads from memory read one byte at their address and write their register; the (HL+) and (HL-) forms also move HL
(R203, R206, R207, R210, R212, R214, R216, R217). -/
def Obligations.MemoryLoads : Prop :=
  ∀ (s : State) (r : Reg8) (n : Byte) (nn : Word),
    let hl := s.regs.get16 .hl
    (encode (.ldRegMemHl r) = [opByte (0x46 + 8 * regCode r)] ∧
      Completes (.ldRegMemHl r) s (s.regs.set8 r (s.read hl)) 8) ∧
    (encode .ldAMemBc = [0x0A] ∧ Completes .ldAMemBc s { s.regs with a := s.read (s.regs.get16 .bc) } 8) ∧
    (encode .ldAMemDe = [0x1A] ∧ Completes .ldAMemDe s { s.regs with a := s.read (s.regs.get16 .de) } 8) ∧
    (encode (.ldAMemNn nn) = [0xFA, loByte nn, hiByte nn] ∧ Completes (.ldAMemNn nn) s { s.regs with a := s.read nn } 16) ∧
    (encode (.ldhAMemN n) = [0xF0, n] ∧
      Completes (.ldhAMemN n) s { s.regs with a := s.read (0xFF00 + n.setWidth 16) } 12) ∧
    (encode .ldhAMemC = [0xF2] ∧ Completes .ldhAMemC s { s.regs with a := s.read (0xFF00 + s.regs.c.setWidth 16) } 8) ∧
    (encode .ldAMemHlInc = [0x2A] ∧
      Completes .ldAMemHlInc s ({ s.regs with a := s.read hl }.set16 .hl (hl + 1)) 8) ∧
    (encode .ldAMemHlDec = [0x3A] ∧
      Completes .ldAMemHlDec s ({ s.regs with a := s.read hl }.set16 .hl (hl - 1)) 8)

/-- The stores write one byte at their address, which reads back where it is stored, leave every other byte, and leave every
register but HL in the (HL+) and (HL-) forms; where the write raises the fault of R113 nothing follows it (R204, R205, R208,
R209, R211, R213, R215, R218, R219). -/
def Obligations.MemoryStores : Prop :=
  ∀ (s : State) (r : Reg8) (n : Byte) (nn : Word),
    let hl := s.regs.get16 .hl
    (encode (.ldMemHlReg r) = [opByte (0x70 + regCode r)] ∧ Stores (.ldMemHlReg r) s hl (s.regs.get8 r) s.regs 8) ∧
    (encode (.ldMemHlN n) = [0x36, n] ∧ Stores (.ldMemHlN n) s hl n s.regs 12) ∧
    (encode .ldMemBcA = [0x02] ∧ Stores .ldMemBcA s (s.regs.get16 .bc) s.regs.a s.regs 8) ∧
    (encode .ldMemDeA = [0x12] ∧ Stores .ldMemDeA s (s.regs.get16 .de) s.regs.a s.regs 8) ∧
    (encode (.ldMemNnA nn) = [0xEA, loByte nn, hiByte nn] ∧ Stores (.ldMemNnA nn) s nn s.regs.a s.regs 16) ∧
    (encode (.ldhMemNA n) = [0xE0, n] ∧ Stores (.ldhMemNA n) s (0xFF00 + n.setWidth 16) s.regs.a s.regs 12) ∧
    (encode .ldhMemCA = [0xE2] ∧ Stores .ldhMemCA s (0xFF00 + s.regs.c.setWidth 16) s.regs.a s.regs 8) ∧
    (encode .ldMemHlIncA = [0x22] ∧ Stores .ldMemHlIncA s hl s.regs.a (s.regs.set16 .hl (hl + 1)) 8) ∧
    (encode .ldMemHlDecA = [0x32] ∧ Stores .ldMemHlDecA s hl s.regs.a (s.regs.set16 .hl (hl - 1)) 8)

/-! ### The stack and 16-bit loads -/

/-- LD (nn),SP stores the low byte at nn and the high byte at nn + 1; PUSH stores the high byte at SP - 1, then the low byte at
SP - 2, and lowers SP by 2; a fault of the first write suppresses the second (R230, R232, R234). -/
def Obligations.WordStores : Prop :=
  ∀ (s : State) (p : PairAf) (nn : Word),
    (encode (.ldMemNnSp nn) = [0x08, loByte nn, hiByte nn] ∧
      StoresTwice (.ldMemNnSp nn) s nn (loByte s.regs.sp) (nn + 1) (hiByte s.regs.sp) s.regs s.regs s.regs 20) ∧
    (encode (.push p) = [opByte (0xC5 + 16 * pairAfCode p)] ∧
      Pushes (.push p) s (s.regs.get16 (pairAfReg p)) s.regs.pc 16)

/-- POP takes its low byte at SP and its high byte at SP + 1 and raises SP by 2; POP AF masks the low nibble of F (R235, R236). -/
def Obligations.Pops : Prop :=
  ∀ (s : State) (p : PairAf),
    let v := wordOf (s.read (s.regs.sp + 1)) (s.read s.regs.sp)
    encode (.pop p) = [opByte (0xC1 + 16 * pairAfCode p)] ∧
      Completes (.pop p) s
        ({ s.regs with sp := s.regs.sp + 2 }.set16 (pairAfReg p) (if p = PairAf.af then v &&& 0xFFF0 else v)) 12

/-- What PUSH stores, a POP right after it gives back, with SP where it was, if both stack bytes lie in memory with its gates
open; for AF this needs F[3:0] = 0, which every step keeps (R230, R234, R235, R236). -/
def Obligations.PushThenPop : Prop :=
  ∀ (s : State) (p q : PairAf), s.faulted = none → s.MemInv → s.regs.f &&& 0x0F = 0 →
    s.storesAt (s.regs.sp - 1).toNat = true → s.storesAt (s.regs.sp - 2).toNat = true →
    ∃ t u, exec (.push p) s = .next t ∧ exec (.pop q) t = .next u ∧ u.regs.sp = s.regs.sp ∧
      u.regs.get16 (pairAfReg q) = (if q = PairAf.af then s.regs.get16 (pairAfReg p) &&& 0xFFF0 else s.regs.get16 (pairAfReg p)) ∧
      (p = q → u.regs = s.regs)

/-- LD HL,SP+e and ADD SP,e add the signed displacement and take H and C from the unsigned low-byte sum (R237, R284). -/
def Obligations.SpPlusDisplacement : Prop :=
  ∀ (s : State) (e : Byte),
    let f := (ruleSpFlags s.regs.sp e).pack
    (encode (.ldHlSpE e) = [0xF8, e] ∧
      Completes (.ldHlSpE e) s ({ s.regs with f := f }.set16 .hl (s.regs.sp + e.signExtend 16)) 12) ∧
    (encode (.addSpE e) = [0xE8, e] ∧
      Completes (.addSpE e) s { s.regs with f := f, sp := s.regs.sp + e.signExtend 16 } 16)

/-! ### Arithmetic and logic -/

/-- The eight operations of R250 on a register, on memory at HL and on an immediate: A and the whole of F as R251 to R258 write
them, nothing else. -/
def Obligations.AluOperations : Prop :=
  ∀ (s : State) (op : AluOp) (r : Reg8) (n : Byte),
    let after := fun v =>
      let q := ruleAlu op s.regs.a v (s.regs.f.getLsbD 4)
      { s.regs with a := q.1, f := q.2.pack }
    (encode (.aluReg op r) = [opByte (0x80 + 8 * aluCode op + regCode r)] ∧
      Completes (.aluReg op r) s (after (s.regs.get8 r)) 4) ∧
    (encode (.aluMemHl op) = [opByte (0x86 + 8 * aluCode op)] ∧
      Completes (.aluMemHl op) s (after (s.read (s.regs.get16 .hl))) 8) ∧
    (encode (.aluN op n) = [opByte (0xC6 + 8 * aluCode op), n] ∧ Completes (.aluN op n) s (after n) 8)

/-- INC r and DEC r (C kept), CPL (Z and C kept), SCF and CCF (Z kept) (R259, R261, R264, R265, R266). -/
def Obligations.RegisterSteps : Prop :=
  ∀ (s : State) (r : Reg8),
    let v := s.regs.get8 r
    let z := s.regs.f.getLsbD 7
    let c := s.regs.f.getLsbD 4
    (encode (.incReg r) = [opByte (0x04 + 8 * regCode r)] ∧
      Completes (.incReg r) s
        { s.regs.set8 r (v + 1) with f := Flags.pack { z := v + 1 == 0, n := false, h := nibble v == 0x0F, c := c } } 4) ∧
    (encode (.decReg r) = [opByte (0x05 + 8 * regCode r)] ∧
      Completes (.decReg r) s
        { s.regs.set8 r (v - 1) with f := Flags.pack { z := v - 1 == 0, n := true, h := nibble v == 0x00, c := c } } 4) ∧
    (encode .cpl = [0x2F] ∧
      Completes .cpl s { s.regs with a := ~~~s.regs.a, f := Flags.pack { z := z, n := true, h := true, c := c } } 4) ∧
    (encode .scf = [0x37] ∧ Completes .scf s { s.regs with f := Flags.pack { z := z, n := false, h := false, c := true } } 4) ∧
    (encode .ccf = [0x3F] ∧ Completes .ccf s { s.regs with f := Flags.pack { z := z, n := false, h := false, c := !c } } 4)

/-- INC (HL) and DEC (HL) read one byte at HL and write one back; the flags are then as the register forms give them, C kept, and
none is written when the write raises the fault of R113 (R260, R262). -/
def Obligations.MemorySteps : Prop :=
  ∀ s : State,
    let hl := s.regs.get16 .hl
    let v := s.read hl
    let c := s.regs.f.getLsbD 4
    (encode .incMemHl = [0x34] ∧
      Stores .incMemHl s hl (v + 1)
        { s.regs with f := Flags.pack { z := v + 1 == 0, n := false, h := nibble v == 0x0F, c := c } } 12) ∧
    (encode .decMemHl = [0x35] ∧
      Stores .decMemHl s hl (v - 1)
        { s.regs with f := Flags.pack { z := v - 1 == 0, n := true, h := nibble v == 0x00, c := c } } 12)

/-- DAA leaves the A and the flags of R263's block, for every A and every F. -/
def Obligations.DecimalAdjust : Prop :=
  ∀ s : State,
    let q := ruleDaa s.regs.a (flagsOf s.regs.f)
    encode .daa = [0x27] ∧ Completes .daa s { s.regs with a := q.1, f := q.2.pack } 4

/-- What DAA is for: an ADD of two packed decimal bytes followed by DAA leaves their decimal sum, C being its carry; a SUB
followed by DAA leaves their decimal difference, C being its borrow (R251, R253, R263). -/
def Obligations.DecimalArithmetic : Prop :=
  ∀ (s : State) (x y : Fin 100), s.regs.a = bcd x.val →
    (∃ t u, exec (.addAN (bcd y.val)) s = .next t ∧ exec .daa t = .next u ∧ u.regs.a = bcd ((x.val + y.val) % 100) ∧
      u.regs.f.getLsbD 4 = decide (100 ≤ x.val + y.val)) ∧
    (∃ t u, exec (.subN (bcd y.val)) s = .next t ∧ exec .daa t = .next u ∧
      u.regs.a = bcd ((100 + x.val - y.val) % 100) ∧ u.regs.f.getLsbD 4 = decide (x.val < y.val))

/-- ADD HL,rr keeps Z and takes H and C from the carries out of bits 11 and 15; INC rr and DEC rr write no flag (R281, R282,
R283). -/
def Obligations.PairArithmetic : Prop :=
  ∀ (s : State) (p : PairSp),
    let hl := s.regs.get16 .hl
    let v := s.regs.get16 (pairSpReg p)
    (encode (.addHlPair p) = [opByte (0x09 + 16 * pairSpCode p)] ∧
      Completes (.addHlPair p) s
        ({ s.regs with f := Flags.pack { z := s.regs.f.getLsbD 7, n := false,
                                         h := decide ((hl &&& 0x0FFF).toNat + (v &&& 0x0FFF).toNat > 0x0FFF),
                                         c := decide (hl.toNat + v.toNat > 0xFFFF) } }.set16 .hl (hl + v)) 8) ∧
    (encode (.incPair p) = [opByte (0x03 + 16 * pairSpCode p)] ∧ Completes (.incPair p) s (s.regs.set16 (pairSpReg p) (v + 1)) 8) ∧
    (encode (.decPair p) = [opByte (0x0B + 16 * pairSpCode p)] ∧ Completes (.decPair p) s (s.regs.set16 (pairSpReg p) (v - 1)) 8)

/-! ### Rotates, shifts, bits -/

/-- RLCA, RRCA, RLA and RRA rotate A as the CB forms do, but Z is always 0 (R291, R292, R293, R294); the CB rotates and shifts, on
a register and on memory at HL, take Z from the result (R295 to R302), and write no flag when the write back faults (R290). -/
def Obligations.RotatesAndShifts : Prop :=
  ∀ (s : State) (op : ShiftOp) (r : Reg8),
    let c := s.regs.f.getLsbD 4
    let accumulator := fun o =>
      let q := ruleShift o s.regs.a c
      { s.regs with a := q.1, f := Flags.pack { z := false, n := false, h := false, c := q.2 } }
    let flags := fun (q : Byte × Bool) => Flags.pack { z := q.1 == 0, n := false, h := false, c := q.2 }
    let q := ruleShift op (s.regs.get8 r) c
    let m := ruleShift op (s.read (s.regs.get16 .hl)) c
    (encode .rlca = [0x07] ∧ Completes .rlca s (accumulator .rlc) 4) ∧
    (encode .rrca = [0x0F] ∧ Completes .rrca s (accumulator .rrc) 4) ∧
    (encode .rla = [0x17] ∧ Completes .rla s (accumulator .rl) 4) ∧
    (encode .rra = [0x1F] ∧ Completes .rra s (accumulator .rr) 4) ∧
    (encode (.shiftReg op r) = [0xCB, opByte (8 * shiftCode op + regCode r)] ∧
      Completes (.shiftReg op r) s { s.regs.set8 r q.1 with f := flags q } 8) ∧
    (encode (.shiftMemHl op) = [0xCB, opByte (0x06 + 8 * shiftCode op)] ∧
      Stores (.shiftMemHl op) s (s.regs.get16 .hl) m.1 { s.regs with f := flags m } 16)

/-- BIT sets Z to the complement of the bit, keeps C and writes nothing back, in 12 T-cycles on memory; RES and SET, on a register
and on memory at HL, change that bit and no flag (R303, R304, R305). -/
def Obligations.BitOperations : Prop :=
  ∀ (s : State) (b : Fin 8) (r : Reg8),
    let hl := s.regs.get16 .hl
    let mask : Byte := (1 : Byte) <<< b.val
    let tested := fun (v : Byte) =>
      { s.regs with f := Flags.pack { z := (v >>> b.val) &&& 1 == 0, n := false, h := true, c := s.regs.f.getLsbD 4 } }
    (encode (.bitReg b r) = [0xCB, opByte (0x40 + 8 * b.val + regCode r)] ∧
      Completes (.bitReg b r) s (tested (s.regs.get8 r)) 8) ∧
    (encode (.bitMemHl b) = [0xCB, opByte (0x46 + 8 * b.val)] ∧ Completes (.bitMemHl b) s (tested (s.read hl)) 12) ∧
    (encode (.resReg b r) = [0xCB, opByte (0x80 + 8 * b.val + regCode r)] ∧
      Completes (.resReg b r) s (s.regs.set8 r (s.regs.get8 r &&& ~~~mask)) 8) ∧
    (encode (.resMemHl b) = [0xCB, opByte (0x86 + 8 * b.val)] ∧
      Stores (.resMemHl b) s hl (s.read hl &&& ~~~mask) s.regs 16) ∧
    (encode (.setReg b r) = [0xCB, opByte (0xC0 + 8 * b.val + regCode r)] ∧
      Completes (.setReg b r) s (s.regs.set8 r (s.regs.get8 r ||| mask)) 8) ∧
    (encode (.setMemHl b) = [0xCB, opByte (0xC6 + 8 * b.val)] ∧ Stores (.setMemHl b) s hl (s.read hl ||| mask) s.regs 16)

/-! ### Control transfers -/

/-- The jumps write pc and nothing else, with their costs taken and not taken (R321, R322, R323, R324, R325). -/
def Obligations.Jumps : Prop :=
  ∀ (s : State) (cc : Cond) (e : Byte) (nn : Word),
    let taken := condOn cc s.regs.f
    let target := s.regs.pc + e.signExtend 16
    (encode (.jpNn nn) = [0xC3, loByte nn, hiByte nn] ∧ Completes (.jpNn nn) s { s.regs with pc := nn } 16) ∧
    (encode .jpHl = [0xE9] ∧ Completes .jpHl s { s.regs with pc := s.regs.get16 .hl } 4) ∧
    (encode (.jr e) = [0x18, e] ∧ Completes (.jr e) s { s.regs with pc := target } 12) ∧
    (encode (.jpCond cc nn) = [opByte (0xC2 + 8 * condCode cc), loByte nn, hiByte nn] ∧
      Completes (.jpCond cc nn) s (if taken then { s.regs with pc := nn } else s.regs) (if taken then 16 else 12)) ∧
    (encode (.jrCond cc e) = [opByte (0x20 + 8 * condCode cc), e] ∧
      Completes (.jrCond cc e) s (if taken then { s.regs with pc := target } else s.regs) (if taken then 12 else 8))

/-- CALL, taken CALL cc and RST push the address of the next instruction and jump; CALL cc not taken touches no stack; a push
byte that faults stops them there, pc unchanged (R326, R327, R331). -/
def Obligations.Calls : Prop :=
  ∀ (s : State) (cc : Cond) (y : Fin 8) (nn : Word),
    (encode (.callNn nn) = [0xCD, loByte nn, hiByte nn] ∧ Pushes (.callNn nn) s s.regs.pc nn 24) ∧
    (encode (.callCond cc nn) = [opByte (0xC4 + 8 * condCode cc), loByte nn, hiByte nn] ∧
      (condOn cc s.regs.f = true → Pushes (.callCond cc nn) s s.regs.pc nn 24) ∧
      (condOn cc s.regs.f = false → Completes (.callCond cc nn) s s.regs 12)) ∧
    (encode (.rst y) = [opByte (0xC7 + 8 * y.val)] ∧
      Pushes (.rst y) s s.regs.pc (BitVec.ofNat 16 (8 * y.val)) 16)

/-- RET and a taken RET cc pop pc; RETI pops pc and sets IME at once, leaving imeDelay (R328, R329, R330). -/
def Obligations.Returns : Prop :=
  ∀ (s : State) (cc : Cond),
    let popped := { s.regs with sp := s.regs.sp + 2, pc := wordOf (s.read (s.regs.sp + 1)) (s.read s.regs.sp) }
    let taken := condOn cc s.regs.f
    (encode .ret = [0xC9] ∧ Completes .ret s popped 16) ∧
    (encode (.retCond cc) = [opByte (0xC0 + 8 * condCode cc)] ∧
      Completes (.retCond cc) s (if taken then popped else s.regs) (if taken then 20 else 8)) ∧
    (encode .reti = [0xD9] ∧ exec .reti s = .next { s.advance popped 16 with ime := true } ∧
      ∀ a, { s.advance popped 16 with ime := true }.read a = s.read a)

/-! ### The bus and the cartridge -/

/-- A bus write raises the fault of R113 exactly when R113 says, recording the bank index and RAM_BANKS, and reaches nothing of the
CPU; with no fault it leaves the mark as it was. -/
def Obligations.BusWriteFault : Prop :=
  ∀ (s : State) (a : Word) (v : Byte), CpuFrame s (s.write a v) ∧
    (s.write a v).faulted =
      (if s.writeFaults a.toNat v then some (.mbcRamBankOutOfRange (s.cart.bankAfter a.toNat v) s.cart.ramBanks)
       else s.faulted)

/-- The fault is reachable only when RAM_BANKS is 0 or not a power of two: with a power of two, or without MBC1, or without
cartridge RAM, no step of the machine faults (R113). -/
def Obligations.FaultUnreachable : Prop :=
  ∀ s t : State, (∃ k, s.cart.ramBanks = 2 ^ k) ∨ s.cart.kind = .romOnly ∨ s.cart.hasRam = false → s.NoFault →
    step s = .next t → t.faulted = none

/-- One byte of storage by the bus: what a write stores at an address reads back there, and a write to no control address leaves
every other byte, of memory and of the registers (R45, R46, R49, R90, R91, R120). -/
def Obligations.ReadAfterWrite : Prop :=
  ∀ (s : State) (a : Word) (v : Byte), ByteFrame s (s.write a v) a v ∧
    (s.MemInv → s.storesAt a.toNat = true → ∀ b : Word, SameCell a.toNat b.toNat → s.lockedOut b.toNat = false →
      (s.write a v).read b = v)

/-- DMA lockout: while a DMA runs, the CPU reads 0xFF everywhere outside HRAM and its writes there are dropped, and HRAM stays
readable and writable; the engine's own reads skip this rule only (R92). The PPU's gates, with no DMA: OAM reads 0xFF and drops
writes in OAMSearch and Drawing, VRAM in Drawing; otherwise they are memory; the DMA engine's OAM writes and the PPU's own reads
are not gated (R540, R541). -/
def Obligations.AccessGates : Prop :=
  (∀ (s : State) (a : Word) (v : Byte), s.ppu.dmaActive = true →
      (¬ (0xFF80 ≤ a.toNat ∧ a.toNat ≤ 0xFFFE) → s.read a = 0xFF ∧ s.write a v = s) ∧
      (0xFF80 ≤ a.toNat → a.toNat ≤ 0xFFFE →
        s.read a = memGet s.hram (a.toNat - 0xFF80) ∧
          s.write a v = { s with hram := memSet s.hram (a.toNat - 0xFF80) v }) ∧
      s.busRead true a = { s with ppu := { s.ppu with dmaActive := false } }.read a ∧
      s.dmaStep.ppu.oam =
        memSet s.ppu.oam s.ppu.dmaIndex (s.busRead true (s.ppu.dmaSource + BitVec.ofNat 16 s.ppu.dmaIndex))) ∧
  (∀ (p : Ppu) (k : Nat), p.vramAt k = memGet p.vram k ∧
      p.oamEntry k = { y := memGet p.oam (4 * k), x := memGet p.oam (4 * k + 1), tile := memGet p.oam (4 * k + 2),
                       flags := memGet p.oam (4 * k + 3), index := k }) ∧
  ∀ (s : State) (a : Word) (v : Byte), s.ppu.dmaActive = false →
    (0xFE00 ≤ a.toNat → a.toNat ≤ 0xFE9F →
      (s.ppu.mode = .oamSearch ∨ s.ppu.mode = .drawing → s.read a = 0xFF ∧ s.write a v = s) ∧
      (s.ppu.mode = .hblank ∨ s.ppu.mode = .vblank →
        s.read a = memGet s.ppu.oam (a.toNat - 0xFE00) ∧
          s.write a v = { s with ppu := { s.ppu with oam := memSet s.ppu.oam (a.toNat - 0xFE00) v } })) ∧
    (0x8000 ≤ a.toNat → a.toNat ≤ 0x9FFF →
      (s.ppu.mode = .drawing → s.read a = 0xFF ∧ s.write a v = s) ∧
      (s.ppu.mode ≠ .drawing →
        s.read a = memGet s.ppu.vram (a.toNat - 0x8000) ∧
          s.write a v = { s with ppu := { s.ppu with vram := memSet s.ppu.vram (a.toNat - 0x8000) v } }))

/-- The boot overlay: while it is mapped, reads below 0x0100 come from the boot image and writes there still reach the cartridge; a
non-zero write to 0xFF50 unmaps it, a zero one does nothing, and 0xFF50 reads the flag (R50, R91). -/
def Obligations.BootOverlay : Prop :=
  ∀ (s : State) (a : Word) (v : Byte), s.ppu.dmaActive = false →
    (a.toNat < 0x0100 → s.bootMapped = true → s.read a = memGet s.boot a.toNat ∧ s.write a v = s.writeCart a.toNat v) ∧
    (a.toNat < 0x0100 → s.bootMapped = false → s.read a = s.cart.read a.toNat) ∧
    s.read 0xFF50 = (if s.bootMapped then 0x00 else 0x01) ∧
    s.write 0xFF50 v = (if v = 0 then s else { s with bootMapped := false })

/-- The MBC1 registers: the RAM enable by 0x0A exactly, the five low bank bits, the two high ones, the banking mode, with the
fault of the last two, out of reach where RAM_BANKS is a power of two; and the bank functions (R110, R111, R112, R113, R114). -/
def Obligations.Mbc1Registers : Prop :=
  ∀ (s : State) (a : Word) (v : Byte), s.ppu.dmaActive = false → s.cart.kind = .mbc1 →
    let t := s.write a v
    let faults := t.cart.mbc.ramBanking = true ∧ t.cart.hasRam = true ∧ t.cart.ramBanks ≤ t.cart.ramBank
    (a.toNat ≤ 0x1FFF →
      s.write a v = { s with cart := { s.cart with mbc := { s.cart.mbc with ramEnabled := v == 0x0A } } }) ∧
    (0x2000 ≤ a.toNat → a.toNat ≤ 0x3FFF →
      s.write a v = { s with cart := { s.cart with mbc := { s.cart.mbc with bankLow := v.setWidth 5 } } }) ∧
    (0x4000 ≤ a.toNat → a.toNat ≤ 0x5FFF →
      t.cart = { s.cart with mbc := { s.cart.mbc with bankHigh := v.setWidth 2 } }) ∧
    (0x6000 ≤ a.toNat → a.toNat ≤ 0x7FFF →
      t.cart = { s.cart with mbc := { s.cart.mbc with ramBanking := v.getLsbD 0 } }) ∧
    (0x4000 ≤ a.toNat → a.toNat ≤ 0x7FFF →
      t = { s with cart := t.cart, faulted := t.faulted } ∧
        (faults → t.faulted = some (.mbcRamBankOutOfRange t.cart.ramBank t.cart.ramBanks)) ∧
        (¬ faults → t.faulted = s.faulted) ∧ ((∃ k, s.cart.ramBanks = 2 ^ k) → ¬ faults)) ∧
    s.cart.romBank = ruleRomBank s.cart.mbc.bankLow s.cart.mbc.bankHigh s.cart.mbc.ramBanking s.cart.romBanks ∧
    s.cart.ramBank = ruleRamBank s.cart.mbc.bankHigh s.cart.mbc.ramBanking s.cart.hasRam s.cart.ramBanks ∧
    1 ≤ s.cart.romBank

/-- What the cartridge reads as where the boot overlay does not cover it, and the writes it stores or drops: ROM-only (R100,
R101) and MBC1 (R115, R116). -/
def Obligations.CartridgeWindow : Prop :=
  ∀ (s : State) (a : Word) (v : Byte), s.ppu.dmaActive = false →
    let uncovered := s.bootMapped = false ∨ 0x0100 ≤ a.toNat
    (s.cart.kind = .romOnly →
      (a.toNat ≤ 0x7FFF → (uncovered → s.read a = romGet s.cart.rom a.toNat) ∧ s.write a v = s) ∧
      (0xA000 ≤ a.toNat → a.toNat ≤ 0xBFFF → s.read a = 0xFF ∧ s.write a v = s)) ∧
    (s.cart.kind = .mbc1 →
      (a.toNat ≤ 0x3FFF → uncovered → s.read a = romGet s.cart.rom a.toNat) ∧
      (0x4000 ≤ a.toNat → a.toNat ≤ 0x7FFF →
        s.read a = romGet s.cart.rom (s.cart.romBank * 0x4000 + (a.toNat - 0x4000))) ∧
      (0xA000 ≤ a.toNat → a.toNat ≤ 0xBFFF →
        let k := s.cart.ramBank * 0x2000 + (a.toNat - 0xA000)
        (s.cart.hasRam = true → s.cart.mbc.ramEnabled = true → k < s.cart.ramBanks * 0x2000 →
          s.read a = memGet s.cart.cram k ∧
            s.write a v = { s with cart := { s.cart with cram := memSet s.cart.cram k v } }) ∧
        (s.cart.hasRam = false ∨ s.cart.mbc.ramEnabled = false → s.read a = 0xFF ∧ s.write a v = s)))

/-! ### The Timer -/

/-- IF and IE from the bus: IF reads with bits 7 to 5 set and a write stores bits 4 to 0; IE is all eight bits (R402, R403). The
Timer's registers from the bus: DIV reads the divider's high byte and any write clears all of it; TIMA cancels a pending reload;
TAC keeps three bits and reads with the others set (R453, R454, R455, R456, R457, R458). -/
def Obligations.InterruptAndTimerRegisters : Prop :=
  ∀ (s : State) (v : Byte), s.ppu.dmaActive = false →
    s.read 0xFF04 = (s.timer.divCounter >>> 8).setWidth 8 ∧ s.read 0xFF05 = s.timer.tima ∧ s.read 0xFF06 = s.timer.tma ∧
    s.read 0xFF07 = 0xF8 ||| s.timer.tac.setWidth 8 ∧
    s.write 0xFF04 v = { s with timer := { s.timer with divCounter := 0 } } ∧
    s.write 0xFF05 v = { s with timer := { s.timer with tima := v, reloadCountdown := 0 } } ∧
    s.write 0xFF06 v = { s with timer := { s.timer with tma := v } } ∧
    s.write 0xFF07 v = { s with timer := { s.timer with tac := v.setWidth 3 } } ∧
    s.read 0xFF0F = 0xE0 ||| s.iflag.setWidth 8 ∧ s.write 0xFF0F v = { s with iflag := v.setWidth 5 } ∧
    s.read 0xFFFF = s.ie ∧ s.write 0xFFFF v = { s with ie := v }

/-- One Timer T-cycle: a pending reload counts down, and at 1 reloads TIMA from TMA; then the divider counts, and a falling edge
of the watched bit and the enable bit increments TIMA, or at 0xFF clears it, requests Timer and schedules the reload. From the end
of an overflow tick on, TIMA reads 0x00 for that tick and the three after it, and TMA at the end of the fourth (R452, R459,
R460). -/
def Obligations.TimerOverflow : Prop :=
  ∀ t : Timer,
    let u : Timer :=
      if t.reloadCountdown = 0 then t
      else if t.reloadCountdown = 1 then { t with reloadCountdown := 0, tima := t.tma }
      else { t with reloadCountdown := t.reloadCountdown - 1 }
    let q := t.tick
    let low := [9, 3, 5, 7].getD (t.tac.toNat % 4) 0
    let high := (t.divCounter + 1).getLsbD low && t.tac.getLsbD 2
    let fell := t.prevAnd && !high
    q.1.divCounter = t.divCounter + 1 ∧ q.1.prevAnd = high ∧ q.1.tma = t.tma ∧ q.1.tac = t.tac ∧
      (fell = false → q.1.tima = u.tima ∧ q.1.reloadCountdown = u.reloadCountdown ∧ q.2 = 0) ∧
      (fell = true → u.tima ≠ 0xFF → q.1.tima = u.tima + 1 ∧ q.1.reloadCountdown = u.reloadCountdown ∧ q.2 = 0) ∧
      (fell = true → u.tima = 0xFF →
        q.1.tima = 0x00 ∧ q.1.reloadCountdown = 4 ∧ q.2 = irqBit .timer ∧
          ∀ n ≤ 4, (Timer.ticks n q.1).1.tima = if n < 4 then 0x00 else t.tma)

/-- The catch-up after a CPU step: as many PPU T-cycles as the Clock is ahead of the PPU's watermark, then as many Timer T-cycles
as it is ahead of the Timer's, with the Timer's requests or-ed into IF and both watermarks set to the Clock (R81, R82, R450, R500).
A PPU T-cycle is a DMA step if a transfer runs, then, with the LCD on, a tick of the mode sequencer with its requests (R501, R546).
So catching up over `m + n` T-cycles at once is catching up over `m` of them and then over `n`, to the bit (R82); there the
pipeline's invariant keeps the DMA engine's source below 0xE000, where no device register is read. -/
def Obligations.CatchUpEquivalence : Prop :=
  (∀ s : State,
    let p := Nat.iterate State.ppuTick (s.cycles - s.ppuLast).toNat s
    let q := Nat.iterate (fun t : Timer × Irq => (t.1.tick.1, t.2 ||| t.1.tick.2)) (s.cycles - s.timerLast).toNat (s.timer, 0)
    s.catchUp = { p with ppuLast := s.cycles, timer := q.1, timerLast := s.cycles, iflag := p.iflag ||| q.2 }) ∧
  (∀ s : State,
    let u := if s.ppu.dmaActive then s.dmaStep else s
    (u.ppu.lcdc.getLsbD 7 = false → s.ppuTick = u) ∧
    (u.ppu.lcdc.getLsbD 7 = true →
      s.ppuTick = { u with ppu := u.ppu.sequencerTick.1, iflag := u.iflag ||| u.ppu.sequencerTick.2 }) ∧
    s.dmaStep =
      { s with ppu := { s.ppu with
          oam := memSet s.ppu.oam s.ppu.dmaIndex (s.busRead true (s.ppu.dmaSource + BitVec.ofNat 16 s.ppu.dmaIndex))
          dmaIndex := s.ppu.dmaIndex + 1
          dmaActive := decide (s.ppu.dmaIndex + 1 ≠ 160) } }) ∧
  ∀ (s : State) (m n : Nat), s.ClockInv → s.ppu.PipeInv → m + n < 2 ^ 64 →
    (s.tick (m + n)).catchUp = ((s.tick m).catchUp.tick n).catchUp

/-! ### The PPU -/

/-- The PPU's registers from the bus: what each reads, and what a write of each changes, LCDC and DMA apart (R505, R506, R507, R508,
R512, R513, R514, R515, R517, R518; addresses R71). -/
def Obligations.PpuRegisters : Prop :=
  ∀ (s : State) (v : Byte), s.ppu.dmaActive = false →
    (s.read 0xFF40 = s.ppu.lcdc ∧ s.read 0xFF42 = s.ppu.scy ∧ s.read 0xFF43 = s.ppu.scx ∧ s.read 0xFF44 = s.ppu.ly ∧
      s.read 0xFF45 = s.ppu.lyc ∧ s.read 0xFF46 = s.ppu.dmaReg ∧ s.read 0xFF47 = s.ppu.bgp ∧ s.read 0xFF48 = s.ppu.obp0 ∧
      s.read 0xFF49 = s.ppu.obp1 ∧ s.read 0xFF4A = s.ppu.wy ∧ s.read 0xFF4B = s.ppu.wx ∧
      s.read 0xFF41 = 0x80 ||| (s.ppu.statSel.setWidth 8 <<< 3) |||
        ((BitVec.ofBool s.ppu.coincidence).setWidth 8 <<< 2) ||| s.ppu.mode.bits.setWidth 8) ∧
    s.write 0xFF41 v = { s with ppu := { s.ppu with statSel := (v >>> 3).setWidth 4 } } ∧
    s.write 0xFF42 v = { s with ppu := { s.ppu with scy := v } } ∧
    s.write 0xFF43 v = { s with ppu := { s.ppu with scx := v } } ∧ s.write 0xFF44 v = s ∧
    s.write 0xFF45 v = { s with ppu := { s.ppu with lyc := v } } ∧
    s.write 0xFF47 v = { s with ppu := { s.ppu with bgp := v } } ∧
    s.write 0xFF48 v = { s with ppu := { s.ppu with obp0 := v } } ∧
    s.write 0xFF49 v = { s with ppu := { s.ppu with obp1 := v } } ∧
    s.write 0xFF4A v = { s with ppu := { s.ppu with wy := v } } ∧
    s.write 0xFF4B v = { s with ppu := { s.ppu with wx := v } }

/-- LCD enable and disable at once on the LCDC write: enabling starts OAMSearch of line 0 with no request; disabling goes to
HBlank with no mode request, LY 0 with its compare, the pipeline, the OAM buffer and the window state reset (R511, R532, R533). -/
def Obligations.LcdSwitch : Prop :=
  ∀ (s : State) (v : Byte), s.ppu.dmaActive = false →
    (s.ppu.lcdc.getLsbD 7 = v.getLsbD 7 → s.write 0xFF40 v = { s with ppu := { s.ppu with lcdc := v } }) ∧
    (s.ppu.lcdc.getLsbD 7 = false → v.getLsbD 7 = true →
      s.write 0xFF40 v =
        { s with ppu := { s.ppu with lcdc := v, mode := .oamSearch, lineCycles := 0, oamBuffer := [], oamCount := 0 } }) ∧
    (s.ppu.lcdc.getLsbD 7 = true → v.getLsbD 7 = false →
      s.write 0xFF40 v =
        { s with
          iflag := if s.ppu.lyc = 0 ∧ s.ppu.statSel.getLsbD 3 = true then s.iflag ||| irqBit .stat else s.iflag
          ppu := { s.ppu with
            lcdc := v, mode := .hblank, ly := 0, coincidence := decide (s.ppu.lyc = 0), lineCycles := 0,
            bg := { state := .getTile, timer := 0, fetchX := 0, tileIndex := 0, dataLow := 0, dataHigh := 0, bugPending := true },
            spr := { active := false, state := .getTile, timer := 0, entry := none, dataLow := 0, dataHigh := 0 },
            bgFifo := [], sprFifo := [], pixelX := 0, discard := s.ppu.scx.toNat % 8, windowActiveLine := false,
            oamBuffer := [], oamCount := 0, windowYTriggered := false, windowLine := -1 } })

/-- OAM search takes exactly 80 T-cycles from the start of a line and leaves, in Drawing, the first ten qualifying entries of OAM
sorted by x with ties in OAM order, OAM standing still meanwhile (R521, R522, R523). -/
def Obligations.OamSearch : Prop :=
  ∀ p : Ppu, p.lcdc.getLsbD 7 = true → p.mode = .oamSearch → p.lineCycles = 0 → p.oamBuffer = [] → p.oamCount = 0 →
    let run := fun n => Nat.iterate (fun q : Ppu => q.sequencerTick.1) n p
    let h := if p.lcdc.getLsbD 2 then 16 else 8
    let chosen := (((List.range 40).map p.oamEntry).filter fun e =>
      decide (0 < e.x.toNat ∧ e.y.toNat ≤ p.ly.toNat + 16 ∧ p.ly.toNat + 16 < e.y.toNat + h)).take 10
    (∀ n < 80, (run n).mode = .oamSearch ∧ (run n).lineCycles = n) ∧
    (run 80).mode = .drawing ∧ (run 80).lineCycles = 80 ∧ (run 80).oamBuffer.Perm chosen ∧
    (run 80).oamBuffer.Pairwise fun e f => e.x.toNat < f.x.toNat ∨ (e.x = f.x ∧ e.index < f.index)

/-- The mode sequencer, one T-cycle with the LCD on, `c` being its number in the line: OAMSearch evaluates an entry on every
second T-cycle and at 80 sorts, resets the pipeline and goes to Drawing; Drawing runs one pipeline T-cycle and goes to HBlank
when pixelX is 160; HBlank and VBlank only count until 456, where the line ends: LY moves and is compared, and VBlank (at 144),
OAMSearch of the next line, the next line of VBlank, or (after 153) OAMSearch of line 0 with the frame counted is entered, each
with its requests, those of the compare and of the entry or-ed (R520, R521, R525, R526, R527, R528, R529, R531). With the LCD
off nothing moves (R502). -/
def Obligations.ModeOrder : Prop :=
  ∀ p : Ppu, p.ModeInv →
    let c := p.lineCycles + 1
    let r : Ppu := { p with lineCycles := c }
    let entry := if c % 2 = 0 then r.evalEntry (c / 2 - 1) else r
    let line := fun (ly : Byte) => { p with lineCycles := 0, ly := ly }.compareLyc
    let search := fun (q : Ppu × Irq) =>
      let e := { q.1 with oamBuffer := [], oamCount := 0 }.enterMode .oamSearch
      (e.1, q.2 ||| e.2)
    (p.lcdc.getLsbD 7 = false → p.sequencerTick = (p, 0)) ∧
    (p.lcdc.getLsbD 7 = true →
      (p.mode = .oamSearch →
        (c < 80 → p.sequencerTick = (entry, 0) ∧ entry.mode = .oamSearch ∧ entry.ly = p.ly ∧ entry.lineCycles = c) ∧
        (80 ≤ c →
          p.sequencerTick = { entry with oamBuffer := sortByX entry.oamBuffer }.resetPipeline.enterMode .drawing ∧
            p.sequencerTick.1.mode = .drawing ∧ p.sequencerTick.1.ly = p.ly ∧ p.sequencerTick.1.lineCycles = 80)) ∧
      (p.mode = .drawing →
        r.drawTick.mode = .drawing ∧ r.drawTick.ly = p.ly ∧ r.drawTick.lineCycles = c ∧
        (r.drawTick.pixelX ≠ 160 → p.sequencerTick = (r.drawTick, 0)) ∧
        (r.drawTick.pixelX = 160 → p.sequencerTick = r.drawTick.resetPipeline.enterMode .hblank)) ∧
      (p.mode = .hblank →
        (c < 456 → p.sequencerTick = (r, 0)) ∧
        (456 ≤ c →
          (p.ly + 1 = 144 →
            p.sequencerTick = ((line 144).1.enterVblank.1, (line 144).2 ||| (line 144).1.enterVblank.2) ∧
              p.sequencerTick.1.mode = .vblank ∧ p.sequencerTick.1.ly = 144 ∧ p.sequencerTick.1.lineCycles = 0) ∧
          (p.ly + 1 ≠ 144 →
            p.sequencerTick = search (line (p.ly + 1)) ∧ p.sequencerTick.1.mode = .oamSearch ∧
              p.sequencerTick.1.ly.toNat = p.ly.toNat + 1 ∧ p.sequencerTick.1.ly.toNat ≤ 143 ∧
              p.sequencerTick.1.lineCycles = 0))) ∧
      (p.mode = .vblank →
        (c < 456 → p.sequencerTick = (r, 0)) ∧
        (456 ≤ c →
          (p.ly ≠ 153 →
            p.sequencerTick = line (p.ly + 1) ∧ p.sequencerTick.1.mode = .vblank ∧
              p.sequencerTick.1.ly.toNat = p.ly.toNat + 1 ∧ p.sequencerTick.1.ly.toNat ≤ 153 ∧
              p.sequencerTick.1.lineCycles = 0) ∧
          (p.ly = 153 →
            p.sequencerTick =
              ({ (search (line 0)).1 with frameCounter := p.frameCounter + 1 }, (search (line 0)).2) ∧
              p.sequencerTick.1.mode = .oamSearch ∧ p.sequencerTick.1.ly = 0 ∧ p.sequencerTick.1.lineCycles = 0))))

/-- The PPU's interrupt requests: the LYC compare sets STAT[2] and requests STAT with STAT[6]; entering HBlank, VBlank and
OAMSearch requests STAT with STAT[3], STAT[4] and STAT[5], entering Drawing nothing; VBlank entry requests VBlank (R524, R527,
R534). -/
def Obligations.StatRequests : Prop :=
  ∀ (p : Ppu) (m : Mode),
    (p.ly = p.lyc → p.compareLyc = ({ p with coincidence := true }, if p.statSel.getLsbD 3 then irqBit .stat else 0)) ∧
    (p.ly ≠ p.lyc → p.compareLyc = ({ p with coincidence := false }, 0)) ∧
    (p.enterMode m).1 = { p with mode := m } ∧
    (p.enterMode m).2 =
      (if (m = .hblank ∧ p.statSel.getLsbD 0 = true) ∨ (m = .vblank ∧ p.statSel.getLsbD 1 = true) ∨
          (m = .oamSearch ∧ p.statSel.getLsbD 2 = true) then irqBit .stat else 0) ∧
    p.enterVblank.1 = { p with mode := .vblank, windowYTriggered := false, windowLine := -1,
                               framesPresented := p.framesPresented + 1 } ∧
    p.enterVblank.2 = (if p.statSel.getLsbD 1 then irqBit .stat else 0) ||| irqBit .vblank

/-- OAM DMA: a write of v to 0xFF46 starts a transfer from page min(v, 0xDF); it moves one byte a T-cycle for exactly 160
T-cycles, after which OAM holds what the engine's own bus reads gave at the start; this last for sources outside VRAM, whose gate
may move meanwhile (R545, R546, R547). -/
def Obligations.DmaTransfer : Prop :=
  (∀ (s : State) (v : Byte), s.ppu.dmaActive = false →
    s.write 0xFF46 v =
      { s with ppu := { s.ppu with dmaReg := v, dmaSource := BitVec.ofNat 16 (256 * min v.toNat 0xDF), dmaIndex := 0,
                                   dmaActive := true } }) ∧
  (∀ s : State, s.ppu.dmaActive = true → s.ppu.dmaIndex = 0 →
    (∀ n < 160, (State.ppuTicks n s).ppu.dmaActive = true ∧ (State.ppuTicks n s).ppu.dmaIndex = n) ∧
    ∀ n ≥ 160, (State.ppuTicks n s).ppu.dmaActive = false) ∧
  ∀ (s : State) (page : Nat), s.MemInv → s.ppu.dmaActive = true → s.ppu.dmaIndex = 0 → page ≤ 0xDF →
    s.ppu.dmaSource = BitVec.ofNat 16 (256 * page) → ¬ (0x80 ≤ page ∧ page ≤ 0x9F) →
    ∀ k < 160, memGet (State.ppuTicks 160 s).ppu.oam k = s.busRead true (BitVec.ofNat 16 (256 * page + k))

/-- Drawing with no sprite selected and the window disabled lasts exactly 172 + (SCX & 7) T-cycles (R596, its first case). -/
def Obligations.DrawingLength : Prop :=
  ∀ p : Ppu, p.lcdc.getLsbD 7 = true → p.lcdc.getLsbD 5 = false → p.mode = .drawing → p.oamBuffer = [] →
    p.resetPipeline = p →
    let run := fun n => Nat.iterate (fun q : Ppu => q.sequencerTick.1) n p
    (∀ n < 172 + p.scx.toNat % 8, (run n).mode = .drawing) ∧ (run (172 + p.scx.toNat % 8)).mode = .hblank

/-- One T-cycle of the background fetcher: two for each of GetTile, GetTileDataLow and GetTileDataHigh, with the action on the
second, at the map and tile addresses of R563, R564 and R567; the first GetTileDataHigh after a restart discards its tile; Push
succeeds, with the row's eight colour indices, only on an empty FIFO (R562, R563, R564, R565, R566, R568). -/
def Obligations.BackgroundFetch : Prop :=
  ∀ p : Ppu,
    let f := p.bg
    let vram := fun a => memGet p.vram (a - 0x8000)
    let line := if p.windowActiveLine then BitVec.ofInt 8 p.windowLine else p.ly + p.scy
    let mapBase := if p.lcdc.getLsbD (if p.windowActiveLine then 6 else 3) then 0x9C00 else 0x9800
    let tileX := ((if p.windowActiveLine then 0 else p.scx.toNat / 8) + f.fetchX.toNat) % 32
    let tileY := line.toNat / 8
    let tileData := if p.lcdc.getLsbD 4 then (0x8000 : Word) + 16 * f.tileIndex.setWidth 16
      else 0x9000 + 16 * f.tileIndex.signExtend 16
    let row := line.toNat % 8
    (f.state ≠ .push → f.timer = 0 → p.bgStep = { p with bg := { f with timer := 1 } }) ∧
    (f.timer = 1 →
      (f.state = .getTile →
        p.bgStep =
          { p with bg := { f with tileIndex := vram (mapBase + 32 * tileY + tileX), state := .getTileDataLow, timer := 0 } }) ∧
      (f.state = .getTileDataLow →
        p.bgStep =
          { p with bg := { f with dataLow := vram (tileData.toNat + 2 * row), state := .getTileDataHigh, timer := 0 } }) ∧
      (f.state = .getTileDataHigh →
        p.bgStep =
          { p with bg := { f with dataHigh := vram (tileData.toNat + 2 * row + 1), timer := 0, bugPending := false,
                                  state := if f.bugPending then FetchState.getTile else FetchState.push } })) ∧
    (f.state = .push → p.bgFifo ≠ [] → p.bgStep = p) ∧
    (f.state = .push → p.bgFifo = [] →
      p.bgStep =
        { p with bg := { f with fetchX := f.fetchX + 1, state := .getTile },
                 bgFifo := (List.range 8).map fun i =>
                   BitVec.ofNat 2 (2 * (f.dataHigh.toNat / 2 ^ (7 - i) % 2) + f.dataLow.toNat / 2 ^ (7 - i) % 2) }) ∧
    p.resetPipeline.bg.bugPending = true ∧ p.activateWindow.bg.bugPending = true

/-- A sprite fetch: it starts, and runs its first T-cycle, when none is active, the sprite FIFO has room and an entry's x is
pixelX + 8, the first such entry in the buffer's order; it takes 7 T-cycles, freezing the background; its row addresses; and the
merge of its eight pixels, an opaque pixel already there winning (R570, R571, R572, R573, R574). No pixel is output while it is
active (R561). -/
def Obligations.SpriteFetch : Prop :=
  ∀ (p : Ppu) (e : OamEntry),
    let f := p.spr
    let due := f.active = false ∧ p.sprFifo.length < 8 ∧ p.oamBuffer.find? (fun d => d.x.toNat == p.pixelX + 8) = some e
    let h := if p.lcdc.getLsbD 2 then 16 else 8
    let row0 := (p.ly + 16 - e.y).toNat % h
    let row := if e.flags.getLsbD 6 then h - 1 - row0 else row0
    let t := if h = 16 then (e.tile &&& 0xFE).toNat else e.tile.toNat
    let pixel := fun i =>
      let k := if e.flags.getLsbD 5 then i else 7 - i
      ({ colorIndex := BitVec.ofNat 2 (2 * (f.dataHigh.toNat / 2 ^ k % 2) + f.dataLow.toNat / 2 ^ k % 2)
         priority := e.flags.getLsbD 7, palette := e.flags.getLsbD 4 } : SpritePixel)
    (due → ∃ low high,
      p.fetchAction =
        { p with spr := { active := true, state := .getTile, timer := 1, entry := some e, dataLow := low, dataHigh := high } }) ∧
    (due → let run := fun n => Nat.iterate Ppu.fetchAction n p
      (∀ n ≤ 7, (run n).bg = p.bg ∧ (run n).bgFifo = p.bgFifo ∧ ((run n).spr.active = true ↔ 1 ≤ n ∧ n ≤ 6)) ∧
        (run 7).sprFifo.length = 8) ∧
    (f.active = false → (8 ≤ p.sprFifo.length ∨ ∀ d ∈ p.oamBuffer, d.x.toNat ≠ p.pixelX + 8) → p.fetchAction = p.bgStep) ∧
    (f.active = true → f.entry = some e →
      (f.state ≠ .push → f.timer = 0 → p.fetchAction = { p with spr := { f with timer := 1 } }) ∧
      (f.timer = 1 →
        (f.state = .getTile → p.fetchAction = { p with spr := { f with state := .getTileDataLow, timer := 0 } }) ∧
        (f.state = .getTileDataLow →
          p.fetchAction =
            { p with spr := { f with dataLow := memGet p.vram (16 * t + 2 * row), state := .getTileDataHigh, timer := 0 } }) ∧
        (f.state = .getTileDataHigh →
          p.fetchAction =
            { p with spr := { f with dataHigh := memGet p.vram (16 * t + 2 * row + 1), state := .push, timer := 0 } })) ∧
      (f.state = .push → p.sprFifo.length ≤ 8 →
        p.fetchAction =
          { p with spr := { f with active := false },
                   sprFifo := (List.range 8).map fun i =>
                     match p.sprFifo[i]? with
                     | some x => if x.colorIndex = 0 then pixel i else x
                     | none => pixel i })) ∧
    (p.windowCheck.fetchAction.spr.active = true → p.drawTick = p.windowCheck.fetchAction)

/-- A pixel is output: the discard drops a background pixel alone; else the background pixel and the sprite pixel at the heads of
the FIFOs are popped, and the shade at LY and pixelX is white with LCDC[0] = 0, the sprite's palette's shade where the sprite is
not transparent, else BGP's (R580, R581, R585, R588, R589, R590). -/
def Obligations.PixelOutput : Prop :=
  ∀ (p : Ppu) (b : BitVec 2) (rest : List (BitVec 2)), p.bgFifo = b :: rest →
    (0 < p.discard → p.outputPixel = { p with bgFifo := rest, discard := p.discard - 1 }) ∧
    (p.discard = 0 →
      ∃ c : BitVec 2,
        p.outputPixel = { p with bgFifo := rest, sprFifo := p.sprFifo.tail, pixelX := p.pixelX + 1,
                                 frame := cellSet 0 p.frame (160 * p.ly.toNat + p.pixelX) c } ∧
        (p.lcdc.getLsbD 0 = false → c = 0) ∧
        (p.lcdc.getLsbD 0 = true → p.sprFifo = [] → c = ((p.bgp >>> (2 * b.toNat)) &&& 3).setWidth 2) ∧
        ∀ px more, p.lcdc.getLsbD 0 = true → p.sprFifo = px :: more →
          c = (if px.colorIndex = 0 ∨ p.lcdc.getLsbD 1 = false ∨ (px.priority = true ∧ b ≠ 0)
               then ((p.bgp >>> (2 * b.toNat)) &&& 3).setWidth 2
               else (((if px.palette then p.obp1 else p.obp0) >>> (2 * px.colorIndex.toNat)) &&& 3).setWidth 2))

/-- Window activation: from the tick on which the WY latch holds, LCDC[5] is set and pixelX has reached WX - 7, once a line; it
advances the window line, empties the background FIFO, cancels the discard and restarts the fetcher (R575, R576). -/
def Obligations.WindowActivation : Prop :=
  ∀ p : Ppu,
    let latched := p.windowYTriggered || p.ly == p.wy
    let due := p.windowActiveLine = false ∧ p.lcdc.getLsbD 5 = true ∧ latched = true ∧ p.wx.toNat ≤ p.pixelX + 7
    (due → ∃ tile low high,
      p.windowCheck =
        { p with windowYTriggered := latched, windowActiveLine := true, windowLine := p.windowLine + 1, bgFifo := [], discard := 0,
                 bg := { state := .getTile, timer := 0, fetchX := 0, tileIndex := tile, dataLow := low, dataHigh := high,
                         bugPending := true } }) ∧
    (¬ due → p.windowCheck = { p with windowYTriggered := latched })

/-! ### The Input device -/

/-- The Input device. JOYPAD is an argument: every read function, write function and interrupt policy over the device's select
and button state is the reading of some tables (R9, R440, R441; that the device's own state is a select byte and the buttons
held is log entry 5). At the port, 0xFF00 reads what JOYPAD's read function gives, a write leaves the select state its write
function gives, a press and a release move their button and no other, and each requests Joypad by the policy and reaches nothing
else. With empty tables this is the default JOYPAD: select bits 5 and 4, active-low lines, a request by a press that turns a
line from 1 to 0. -/
def Obligations.JoypadPort : Prop :=
  (∀ (read : Joypad → Byte) (select : Joypad → Byte → Byte) (request : Joypad → InputEvent → Bool), ∃ p : JoypadParam,
    ∀ (j : Joypad) (v : Byte) (e : InputEvent),
      joypadRead p j = read j ∧ joypadSelect p j v = select j v ∧ joypadRequest p j e = request j e) ∧
  (∀ (s : State) (v : Byte) (k l : Button),
    let requested := fun (e : InputEvent) =>
      if joypadRequest s.joypadParam s.joypad e then s.iflag ||| irqBit .joypad else s.iflag
    (s.ppu.dmaActive = false →
      s.read 0xFF00 = joypadRead s.joypadParam s.joypad ∧
        s.write 0xFF00 v =
          { s with joypad := { s.joypad with sel := joypadSelect s.joypadParam s.joypad v }, iflag := requested (.write v) }) ∧
    s.press k = { s with joypad := (s.press k).joypad, iflag := requested (.press k) } ∧
    (s.press k).joypad.sel = s.joypad.sel ∧
    held (s.press k).joypad.pressed l = (decide (l = k) || held s.joypad.pressed l) ∧
    s.release k = { s with joypad := (s.release k).joypad, iflag := requested (.release k) } ∧
    (s.release k).joypad.sel = s.joypad.sel ∧
    held (s.release k).joypad.pressed l = (!decide (l = k) && held s.joypad.pressed l)) ∧
  ∀ (j : Joypad) (v : Byte) (k : Button),
    let d := JoypadParam.standard
    joypadRead d j &&& 0xF0 = 0xC0 ||| ((j.sel &&& 3) <<< 4) ∧
    (∀ i : Fin 4, (joypadRead d j).getLsbD i = ruleLine j i) ∧
    joypadSelect d j v = (v >>> 4) &&& 3 ∧
    joypadRequest d j (.write v) = false ∧ joypadRequest d j (.release k) = false ∧
    joypadRequest d j (.press k) =
      decide (∃ i : Fin 4, ruleLine j i = true ∧ ruleLine (joypadAfter d j (.press k)) i = false)

/-! ### Launch and reset -/

/-- Power-on, profile BOOT: pc 0, F 0, interrupts off, the LCD off in HBlank, the boot ROM mapped, every counter 0, and the drawn
contents everywhere else (R70, R703). Profile POST_BOOT, at cartridge entry: the documented registers, the boot ROM unmapped, the
LCD on in OAMSearch of line 0, and everything else as profile BOOT has it (R702). That the boot ROM is unmapped in POST_BOOT also
where the launch carries a boot image is the model's choice (log entry 16). -/
def Obligations.LaunchProfiles : Prop :=
  ∀ (p : Launch) (i : Init),
    let s := State.entry .boot p i
    s.regs = { a := i.a, f := 0x00, b := i.b, c := i.c, d := i.d, e := i.e, h := i.h, l := i.l, sp := i.sp, pc := 0x0000 } ∧
    s.cycles = 0 ∧ s.ppuLast = 0 ∧ s.timerLast = 0 ∧ s.ime = false ∧ s.imeDelay = 0 ∧ s.halted = false ∧ s.haltBug = false ∧
    s.locked = false ∧ s.iflag = 0 ∧ s.ie = 0x00 ∧ s.bootMapped = true ∧ s.faulted = none ∧ s.refused = none ∧
    s.wram = i.wram ∧ s.hram = i.hram ∧ s.gen = i.gen ∧ s.ppu.vram = i.vram ∧ s.ppu.oam = i.oam ∧ s.cart.cram = i.cram ∧
    s.cart.mbc = { ramEnabled := false, bankLow := 0, bankHigh := 0, ramBanking := false } ∧
    s.timer = { divCounter := 0, tima := 0, tma := 0, tac := 0, prevAnd := false, reloadCountdown := 0 } ∧
    s.ppu.lcdc = 0x00 ∧ s.ppu.stat = 0x80 ∧ s.ppu.mode = .hblank ∧ s.ppu.ly = 0 ∧ s.ppu.lyc = 0 ∧ s.ppu.scy = 0 ∧
    s.ppu.scx = 0 ∧ s.ppu.wy = 0 ∧ s.ppu.wx = 0 ∧ s.ppu.bgp = 0 ∧ s.ppu.obp0 = 0 ∧ s.ppu.obp1 = 0 ∧ s.ppu.dmaReg = 0 ∧
    s.ppu.statSel = 0 ∧ s.ppu.coincidence = false ∧ s.ppu.resetPipeline = s.ppu ∧ s.ppu.oamCount = 0 ∧
    s.ppu.dmaSource = 0 ∧ s.ppu.dmaIndex = 0 ∧
    s.ppu.lineCycles = 0 ∧ s.ppu.frameCounter = 0 ∧ s.ppu.oamBuffer = [] ∧ s.ppu.windowYTriggered = false ∧
    s.ppu.windowLine = -1 ∧ s.ppu.dmaActive = false ∧ s.ppu.frame = [] ∧ s.ppu.framesPresented = 0 ∧
    s.boot = p.boot ∧ s.cart.rom = p.rom ∧ s.cart.kind = p.kind ∧ s.cart.romBanks = p.romBanks.val ∧
    s.cart.ramBanks = p.ramBanks ∧ s.cart.hasRam = p.hasRam ∧ s.joypadParam = p.joypad ∧
    State.entry .postBoot p i =
      { State.entry .boot p i with
        regs := { a := 0x01, f := 0xB0, b := 0x00, c := 0x13, d := 0x00, e := 0xD8, h := 0x01, l := 0x4D, sp := 0xFFFE,
                  pc := 0x0100 }
        bootMapped := false
        ppu := { (State.entry .boot p i).ppu with lcdc := 0x91, bgp := 0xFC, mode := .oamSearch, ly := 0, lineCycles := 0 } }

/-- A launch with an unsupported cartridge kind, a fixed bank over 0x4000 bytes, or profile BOOT without a boot image is refused by
name and has no machine state; every other launch gives its profile's state, with the four premises of R701 (R10, R700, R701).
That the fixed banks' lengths are a list of the request's own (log entry 15), and that a POST_BOOT launch with a boot image is
accepted (log entry 16), is the model's choice, and so is which check of several failed ones is named (log entry 17). -/
def Obligations.LaunchChecks : Prop :=
  ∀ (q : LaunchRequest) (i : Init),
    (∀ b, q.kind = .unsupported b → launch q i = .refused (.unsupportedCartridge b)) ∧
    (∀ k, q.kind = .supported k →
      ((∃ n ∈ q.fixedBankLengths, 0x4000 < n) →
        ∃ n ∈ q.fixedBankLengths, 0x4000 < n ∧ launch q i = .refused (.oversizedBank n)) ∧
      ((∀ n ∈ q.fixedBankLengths, n ≤ 0x4000) → q.profile = .boot → q.boot = none →
        launch q i = .refused .bootImageMissing) ∧
      ((∀ n ∈ q.fixedBankLengths, n ≤ 0x4000) → (q.profile = .boot → q.boot ≠ none) →
        ConfigAccepted q ∧ launch q i = .next (State.entry q.profile (launchParameters q k) i) ∧
          (State.entry q.profile (launchParameters q k) i).NoFault ∧
          (State.entry q.profile (launchParameters q k) i).NothingInFlight))

/-- The invariants hold at every launch whose drawn memories are in canonical form, and at `State.reset`. -/
def Obligations.ResetInvariant : Prop :=
  State.reset.Inv ∧
  ∀ (pr : Profile) (p : Launch) (i : Init),
    Memory.wf Config.unwritten Config.wramSize i.wram = true → Memory.wf Config.unwritten Config.hramSize i.hram = true →
    Memory.wf Config.unwritten Config.genSize i.gen = true →
    Memory.wf Config.unwritten (p.ramBanks * Config.ramBankSize) i.cram = true →
    Memory.wf Config.unwritten Config.vramSize i.vram = true → Memory.wf Config.unwritten Config.oamSize i.oam = true →
    (State.entry pr p i).Inv

/-! ### Invariants and whole-machine rules -/

/-- Every step keeps the invariants, from every state that has them: F[3:0] = 0, `imeDelay` 0 to 2, the watermarks at the Clock, the
reload countdown, the canonical form and size of every memory and of the frame, at least two ROM banks, the mode sequencer's legal
states, the pipeline's bounds (R9, R31, R34, R39, R54, R58, R63 to R66, R502, R531). -/
def Obligations.StepKeepsInvariant : Prop :=
  ∀ s t : State, s.Inv → step s = .next t → t.Inv

/-- No step changes the cartridge image, the boot image, the launch's counts or its JOYPAD; the boot overlay once unmapped stays
unmapped; a locked CPU stays locked (R51, R91, R358, R705). -/
def Obligations.StepKeepsLaunch : Prop :=
  ∀ s t : State, step s = .next t →
    SameLaunch s t ∧ (s.bootMapped = false → t.bootMapped = false) ∧ (s.locked = true → t.locked = true)

/-- The Clock law: a step that stops leaves the Clock and the watermarks; any other advances the Clock by 1 T-cycle when the CPU
idles in the halted state and by 4, 8, 12, 16, 20 or 24 otherwise, and leaves both watermarks at it (R31, R81, R353, R420, R730). -/
def Obligations.ClockLaw : Prop :=
  ∀ s t : State, step s = .next t →
    (t.stopped = true → t.cycles = s.cycles ∧ t.ppuLast = s.ppuLast ∧ t.timerLast = s.timerLast) ∧
    (t.stopped = false →
      t.ppuLast = t.cycles ∧ t.timerLast = t.cycles ∧
        ((s.halted = true ∧ s.locked = false ∧ s.pending = 0 ∧ t.cycles = s.cycles + 1) ∨
          ∃ n ∈ [4, 8, 12, 16, 20, 24], t.cycles = s.cycles + BitVec.ofNat 64 n))
end

