-- ==== Sys2Proof/Laws/Mem.lean ====
section
/-! SUPPORT. The sparse arrays: what a read after a write gives, and that every operation of Mem.lean keeps the canonical
form. -/

namespace Sys2Proof.Machine

/-- A write leaves every other cell. -/
theorem cellGet_cellSet_other {w : Nat} (d : BitVec w) (m : Cells w) {j k : Nat} (v : BitVec w) (h : j ≠ k) :
    cellGet d (cellSet d m k v) j = cellGet d m j := by
  induction m with
  | nil =>
    by_cases hv : v = d
    · simp [cellSet, hv]
    · simp [cellSet, cellGet, hv, Ne.symm h]
  | cons c rest ih =>
    obtain ⟨i, u⟩ := c
    unfold cellSet
    split
    · simp only [cellGet]; rw [ih]
    · split
      · rename_i hi; subst hi
        split
        · simp [cellGet, Ne.symm h]
        · simp [cellGet, Ne.symm h]
      · split
        · rfl
        · simp [cellGet, Ne.symm h]

/-- In canonical form above `lo`, a cell below `lo` is not listed. -/
theorem cellGet_below {w : Nat} {d : BitVec w} {size lo : Nat} {m : Cells w} (hm : cellsWfFrom d size lo m = true) {k : Nat}
    (hk : k < lo) : cellGet d m k = d := by
  induction m generalizing lo with
  | nil => rfl
  | cons c rest ih =>
    obtain ⟨i, u⟩ := c
    simp only [cellsWfFrom, Bool.and_eq_true, decide_eq_true_eq] at hm
    rw [cellGet, if_neg (by omega)]
    exact ih hm.2 (by omega)

/-- A read after a write to the same cell gives what was written. -/
theorem cellGet_cellSet_same {w : Nat} {d : BitVec w} {size lo : Nat} {m : Cells w} (hm : cellsWfFrom d size lo m = true)
    (k : Nat) (v : BitVec w) : cellGet d (cellSet d m k v) k = v := by
  induction m generalizing lo with
  | nil =>
    by_cases hv : v = d
    · simp [cellSet, cellGet, hv]
    · simp [cellSet, cellGet, hv]
  | cons c rest ih =>
    obtain ⟨i, u⟩ := c
    simp only [cellsWfFrom, Bool.and_eq_true, decide_eq_true_eq] at hm
    unfold cellSet
    split
    · rename_i hi
      rw [cellGet, if_neg (by omega), ih hm.2]
    · split
      · rename_i hi; subst hi
        split
        · rename_i hv; rw [hv]; exact cellGet_below hm.2 (by omega)
        · simp [cellGet]
      · rename_i h1 h2
        split
        · rename_i hv
          rw [cellGet, if_neg h2, hv]
          exact cellGet_below hm.2 (by omega)
        · simp [cellGet]

theorem cellsWfFrom_mono {w : Nat} {d : BitVec w} {size lo lo' : Nat} {m : Cells w} (hm : cellsWfFrom d size lo m = true)
    (h : lo' ≤ lo) : cellsWfFrom d size lo' m = true := by
  cases m with
  | nil => rfl
  | cons c rest =>
    obtain ⟨i, u⟩ := c
    simp only [cellsWfFrom, Bool.and_eq_true, decide_eq_true_eq] at hm ⊢
    exact ⟨⟨⟨by omega, hm.1.1.2⟩, hm.1.2⟩, hm.2⟩

theorem cellsWfFrom_cellSet {w : Nat} {d : BitVec w} {size lo : Nat} {m : Cells w} (hm : cellsWfFrom d size lo m = true)
    {k : Nat} (hlo : lo ≤ k) (hk : k < size) (v : BitVec w) : cellsWfFrom d size lo (cellSet d m k v) = true := by
  induction m generalizing lo with
  | nil =>
    by_cases hv : v = d
    · simp [cellSet, cellsWfFrom, hv]
    · simp [cellSet, cellsWfFrom, hv, hlo, hk]
  | cons c rest ih =>
    obtain ⟨i, u⟩ := c
    simp only [cellsWfFrom, Bool.and_eq_true, decide_eq_true_eq] at hm
    unfold cellSet
    split
    · simp only [cellsWfFrom, Bool.and_eq_true, decide_eq_true_eq]
      exact ⟨hm.1, ih hm.2 (by omega)⟩
    · split
      · rename_i hi; subst hi
        split
        · exact cellsWfFrom_mono hm.2 (by omega)
        · rename_i hv
          simp only [cellsWfFrom, Bool.and_eq_true, decide_eq_true_eq]
          exact ⟨⟨⟨hlo, hk⟩, hv⟩, hm.2⟩
      · split
        · simp only [cellsWfFrom, Bool.and_eq_true, decide_eq_true_eq]; exact hm
        · rename_i hv
          simp only [cellsWfFrom, Bool.and_eq_true, decide_eq_true_eq]
          exact ⟨⟨⟨hlo, hk⟩, hv⟩, ⟨⟨by omega, hm.1.1.2⟩, hm.1.2⟩, hm.2⟩

/-- A write inside the array keeps the canonical form. -/
theorem cellsWf_cellSet {w : Nat} {d : BitVec w} {size : Nat} {m : Cells w} (hm : cellsWf d size m = true) {k : Nat}
    (hk : k < size) (v : BitVec w) : cellsWf d size (cellSet d m k v) = true :=
  cellsWfFrom_cellSet hm (Nat.zero_le k) hk v

/-- A memory write inside the memory keeps the canonical form. -/
theorem Memory.wf_memSet {size : Nat} {m : Memory} (hm : Memory.wf Config.unwritten size m = true) {k : Nat} (hk : k < size)
    (v : Byte) : Memory.wf Config.unwritten size (memSet m k v) = true :=
  cellsWf_cellSet hm hk v

/-- A memory reads back what was stored. -/
theorem memGet_memSet_same {size : Nat} {m : Memory} (hm : Memory.wf Config.unwritten size m = true) (k : Nat) (v : Byte) :
    memGet (memSet m k v) k = v :=
  cellGet_cellSet_same hm k v

/-- A store leaves every other byte. -/
theorem memGet_memSet_other (m : Memory) {j k : Nat} (v : Byte) (h : j ≠ k) : memGet (memSet m k v) j = memGet m j :=
  cellGet_cellSet_other _ m v h

theorem cellsWfFrom_imageFrom (d : Byte) (k : Nat) (bs : List Byte) :
    cellsWfFrom d (k + bs.length) k (imageFrom d k bs) = true := by
  induction bs generalizing k with
  | nil => rfl
  | cons b rest ih =>
    have h := ih (k + 1)
    rw [show k + 1 + rest.length = k + (b :: rest).length by simp only [List.length_cons]; omega] at h
    unfold imageFrom
    split
    · exact cellsWfFrom_mono h (by omega)
    · rename_i hb
      simp only [cellsWfFrom, Bool.and_eq_true, decide_eq_true_eq]
      exact ⟨⟨⟨Nat.le_refl k, by simp⟩, hb⟩, h⟩

/-- A loaded image is in canonical form. -/
theorem Memory.wf_image (d : Byte) (bs : List Byte) : Memory.wf d bs.length (imageFrom d 0 bs) = true := by
  have h := cellsWfFrom_imageFrom d 0 bs
  rwa [Nat.zero_add] at h

/-- A loaded image reads as its bytes, and as an unlisted byte beyond them. -/
theorem cellGet_imageFrom (d : Byte) (k : Nat) (bs : List Byte) (i : Nat) :
    cellGet d (imageFrom d k bs) (k + i) = bs.getD i d := by
  induction bs generalizing k i with
  | nil => simp [imageFrom, cellGet]
  | cons b rest ih =>
    unfold imageFrom
    cases i with
    | zero =>
      split
      · rename_i hb
        have h := cellsWfFrom_imageFrom d (k + 1) rest
        rw [Nat.add_zero, cellGet_below h (by omega)]
        simp [hb]
      · simp [cellGet]
    | succ i =>
      have h := ih (k + 1) i
      rw [show k + 1 + i = k + (i + 1) by omega] at h
      split
      · rw [h]; simp
      · rw [cellGet, if_neg (by omega), h]; simp

/-- The reset memories are in canonical form. -/
theorem Memory.wf_nil (d : Byte) (size : Nat) : Memory.wf d size [] = true := rfl

end Sys2Proof.Machine
end

