-- ==== Sys2Proof/Laws/State.lean ====
section
/-! SUPPORT. The field laws of State: what each named update leaves in each field, all true by rfl, so that no later proof
unfolds a record update; and the read-after-write laws of the register file (spec/10_state.md R33). -/

namespace Sys2Proof.Machine

/-! ### request -/

@[simp] theorem State.request_cycles (s : State) (r : Irq) : (s.request r).cycles = s.cycles := rfl
@[simp] theorem State.request_ppuLast (s : State) (r : Irq) : (s.request r).ppuLast = s.ppuLast := rfl
@[simp] theorem State.request_timerLast (s : State) (r : Irq) : (s.request r).timerLast = s.timerLast := rfl
@[simp] theorem State.request_regs (s : State) (r : Irq) : (s.request r).regs = s.regs := rfl
@[simp] theorem State.request_ime (s : State) (r : Irq) : (s.request r).ime = s.ime := rfl
@[simp] theorem State.request_imeDelay (s : State) (r : Irq) : (s.request r).imeDelay = s.imeDelay := rfl
@[simp] theorem State.request_halted (s : State) (r : Irq) : (s.request r).halted = s.halted := rfl
@[simp] theorem State.request_haltBug (s : State) (r : Irq) : (s.request r).haltBug = s.haltBug := rfl
@[simp] theorem State.request_locked (s : State) (r : Irq) : (s.request r).locked = s.locked := rfl
@[simp] theorem State.request_iflag (s : State) (r : Irq) : (s.request r).iflag = s.iflag ||| r := rfl
@[simp] theorem State.request_ie (s : State) (r : Irq) : (s.request r).ie = s.ie := rfl
@[simp] theorem State.request_wram (s : State) (r : Irq) : (s.request r).wram = s.wram := rfl
@[simp] theorem State.request_hram (s : State) (r : Irq) : (s.request r).hram = s.hram := rfl
@[simp] theorem State.request_gen (s : State) (r : Irq) : (s.request r).gen = s.gen := rfl
@[simp] theorem State.request_boot (s : State) (r : Irq) : (s.request r).boot = s.boot := rfl
@[simp] theorem State.request_bootMapped (s : State) (r : Irq) : (s.request r).bootMapped = s.bootMapped := rfl
@[simp] theorem State.request_cart (s : State) (r : Irq) : (s.request r).cart = s.cart := rfl
@[simp] theorem State.request_timer (s : State) (r : Irq) : (s.request r).timer = s.timer := rfl
@[simp] theorem State.request_ppu (s : State) (r : Irq) : (s.request r).ppu = s.ppu := rfl
@[simp] theorem State.request_joypad (s : State) (r : Irq) : (s.request r).joypad = s.joypad := rfl
@[simp] theorem State.request_joypadParam (s : State) (r : Irq) : (s.request r).joypadParam = s.joypadParam := rfl
@[simp] theorem State.request_faulted (s : State) (r : Irq) : (s.request r).faulted = s.faulted := rfl
@[simp] theorem State.request_refused (s : State) (r : Irq) : (s.request r).refused = s.refused := rfl

/-! ### set8 -/

@[simp] theorem State.set8_cycles (s : State) (r : Reg8) (v : Byte) : (s.set8 r v).cycles = s.cycles := rfl
@[simp] theorem State.set8_ppuLast (s : State) (r : Reg8) (v : Byte) : (s.set8 r v).ppuLast = s.ppuLast := rfl
@[simp] theorem State.set8_timerLast (s : State) (r : Reg8) (v : Byte) : (s.set8 r v).timerLast = s.timerLast := rfl
@[simp] theorem State.set8_regs (s : State) (r : Reg8) (v : Byte) : (s.set8 r v).regs = s.regs.set8 r v := rfl
@[simp] theorem State.set8_ime (s : State) (r : Reg8) (v : Byte) : (s.set8 r v).ime = s.ime := rfl
@[simp] theorem State.set8_imeDelay (s : State) (r : Reg8) (v : Byte) : (s.set8 r v).imeDelay = s.imeDelay := rfl
@[simp] theorem State.set8_halted (s : State) (r : Reg8) (v : Byte) : (s.set8 r v).halted = s.halted := rfl
@[simp] theorem State.set8_haltBug (s : State) (r : Reg8) (v : Byte) : (s.set8 r v).haltBug = s.haltBug := rfl
@[simp] theorem State.set8_locked (s : State) (r : Reg8) (v : Byte) : (s.set8 r v).locked = s.locked := rfl
@[simp] theorem State.set8_iflag (s : State) (r : Reg8) (v : Byte) : (s.set8 r v).iflag = s.iflag := rfl
@[simp] theorem State.set8_ie (s : State) (r : Reg8) (v : Byte) : (s.set8 r v).ie = s.ie := rfl
@[simp] theorem State.set8_wram (s : State) (r : Reg8) (v : Byte) : (s.set8 r v).wram = s.wram := rfl
@[simp] theorem State.set8_hram (s : State) (r : Reg8) (v : Byte) : (s.set8 r v).hram = s.hram := rfl
@[simp] theorem State.set8_gen (s : State) (r : Reg8) (v : Byte) : (s.set8 r v).gen = s.gen := rfl
@[simp] theorem State.set8_boot (s : State) (r : Reg8) (v : Byte) : (s.set8 r v).boot = s.boot := rfl
@[simp] theorem State.set8_bootMapped (s : State) (r : Reg8) (v : Byte) : (s.set8 r v).bootMapped = s.bootMapped := rfl
@[simp] theorem State.set8_cart (s : State) (r : Reg8) (v : Byte) : (s.set8 r v).cart = s.cart := rfl
@[simp] theorem State.set8_timer (s : State) (r : Reg8) (v : Byte) : (s.set8 r v).timer = s.timer := rfl
@[simp] theorem State.set8_ppu (s : State) (r : Reg8) (v : Byte) : (s.set8 r v).ppu = s.ppu := rfl
@[simp] theorem State.set8_joypad (s : State) (r : Reg8) (v : Byte) : (s.set8 r v).joypad = s.joypad := rfl
@[simp] theorem State.set8_joypadParam (s : State) (r : Reg8) (v : Byte) : (s.set8 r v).joypadParam = s.joypadParam := rfl
@[simp] theorem State.set8_faulted (s : State) (r : Reg8) (v : Byte) : (s.set8 r v).faulted = s.faulted := rfl
@[simp] theorem State.set8_refused (s : State) (r : Reg8) (v : Byte) : (s.set8 r v).refused = s.refused := rfl

/-! ### set16 -/

@[simp] theorem State.set16_cycles (s : State) (r : Reg16) (v : Word) : (s.set16 r v).cycles = s.cycles := rfl
@[simp] theorem State.set16_ppuLast (s : State) (r : Reg16) (v : Word) : (s.set16 r v).ppuLast = s.ppuLast := rfl
@[simp] theorem State.set16_timerLast (s : State) (r : Reg16) (v : Word) : (s.set16 r v).timerLast = s.timerLast := rfl
@[simp] theorem State.set16_regs (s : State) (r : Reg16) (v : Word) : (s.set16 r v).regs = s.regs.set16 r v := rfl
@[simp] theorem State.set16_ime (s : State) (r : Reg16) (v : Word) : (s.set16 r v).ime = s.ime := rfl
@[simp] theorem State.set16_imeDelay (s : State) (r : Reg16) (v : Word) : (s.set16 r v).imeDelay = s.imeDelay := rfl
@[simp] theorem State.set16_halted (s : State) (r : Reg16) (v : Word) : (s.set16 r v).halted = s.halted := rfl
@[simp] theorem State.set16_haltBug (s : State) (r : Reg16) (v : Word) : (s.set16 r v).haltBug = s.haltBug := rfl
@[simp] theorem State.set16_locked (s : State) (r : Reg16) (v : Word) : (s.set16 r v).locked = s.locked := rfl
@[simp] theorem State.set16_iflag (s : State) (r : Reg16) (v : Word) : (s.set16 r v).iflag = s.iflag := rfl
@[simp] theorem State.set16_ie (s : State) (r : Reg16) (v : Word) : (s.set16 r v).ie = s.ie := rfl
@[simp] theorem State.set16_wram (s : State) (r : Reg16) (v : Word) : (s.set16 r v).wram = s.wram := rfl
@[simp] theorem State.set16_hram (s : State) (r : Reg16) (v : Word) : (s.set16 r v).hram = s.hram := rfl
@[simp] theorem State.set16_gen (s : State) (r : Reg16) (v : Word) : (s.set16 r v).gen = s.gen := rfl
@[simp] theorem State.set16_boot (s : State) (r : Reg16) (v : Word) : (s.set16 r v).boot = s.boot := rfl
@[simp] theorem State.set16_bootMapped (s : State) (r : Reg16) (v : Word) : (s.set16 r v).bootMapped = s.bootMapped := rfl
@[simp] theorem State.set16_cart (s : State) (r : Reg16) (v : Word) : (s.set16 r v).cart = s.cart := rfl
@[simp] theorem State.set16_timer (s : State) (r : Reg16) (v : Word) : (s.set16 r v).timer = s.timer := rfl
@[simp] theorem State.set16_ppu (s : State) (r : Reg16) (v : Word) : (s.set16 r v).ppu = s.ppu := rfl
@[simp] theorem State.set16_joypad (s : State) (r : Reg16) (v : Word) : (s.set16 r v).joypad = s.joypad := rfl
@[simp] theorem State.set16_joypadParam (s : State) (r : Reg16) (v : Word) : (s.set16 r v).joypadParam = s.joypadParam := rfl
@[simp] theorem State.set16_faulted (s : State) (r : Reg16) (v : Word) : (s.set16 r v).faulted = s.faulted := rfl
@[simp] theorem State.set16_refused (s : State) (r : Reg16) (v : Word) : (s.set16 r v).refused = s.refused := rfl

/-! ### setFlags -/

@[simp] theorem State.setFlags_cycles (s : State) (f : Flags) : (s.setFlags f).cycles = s.cycles := rfl
@[simp] theorem State.setFlags_ppuLast (s : State) (f : Flags) : (s.setFlags f).ppuLast = s.ppuLast := rfl
@[simp] theorem State.setFlags_timerLast (s : State) (f : Flags) : (s.setFlags f).timerLast = s.timerLast := rfl
@[simp] theorem State.setFlags_regs (s : State) (f : Flags) : (s.setFlags f).regs = { s.regs with f := f.pack } := rfl
@[simp] theorem State.setFlags_ime (s : State) (f : Flags) : (s.setFlags f).ime = s.ime := rfl
@[simp] theorem State.setFlags_imeDelay (s : State) (f : Flags) : (s.setFlags f).imeDelay = s.imeDelay := rfl
@[simp] theorem State.setFlags_halted (s : State) (f : Flags) : (s.setFlags f).halted = s.halted := rfl
@[simp] theorem State.setFlags_haltBug (s : State) (f : Flags) : (s.setFlags f).haltBug = s.haltBug := rfl
@[simp] theorem State.setFlags_locked (s : State) (f : Flags) : (s.setFlags f).locked = s.locked := rfl
@[simp] theorem State.setFlags_iflag (s : State) (f : Flags) : (s.setFlags f).iflag = s.iflag := rfl
@[simp] theorem State.setFlags_ie (s : State) (f : Flags) : (s.setFlags f).ie = s.ie := rfl
@[simp] theorem State.setFlags_wram (s : State) (f : Flags) : (s.setFlags f).wram = s.wram := rfl
@[simp] theorem State.setFlags_hram (s : State) (f : Flags) : (s.setFlags f).hram = s.hram := rfl
@[simp] theorem State.setFlags_gen (s : State) (f : Flags) : (s.setFlags f).gen = s.gen := rfl
@[simp] theorem State.setFlags_boot (s : State) (f : Flags) : (s.setFlags f).boot = s.boot := rfl
@[simp] theorem State.setFlags_bootMapped (s : State) (f : Flags) : (s.setFlags f).bootMapped = s.bootMapped := rfl
@[simp] theorem State.setFlags_cart (s : State) (f : Flags) : (s.setFlags f).cart = s.cart := rfl
@[simp] theorem State.setFlags_timer (s : State) (f : Flags) : (s.setFlags f).timer = s.timer := rfl
@[simp] theorem State.setFlags_ppu (s : State) (f : Flags) : (s.setFlags f).ppu = s.ppu := rfl
@[simp] theorem State.setFlags_joypad (s : State) (f : Flags) : (s.setFlags f).joypad = s.joypad := rfl
@[simp] theorem State.setFlags_joypadParam (s : State) (f : Flags) : (s.setFlags f).joypadParam = s.joypadParam := rfl
@[simp] theorem State.setFlags_faulted (s : State) (f : Flags) : (s.setFlags f).faulted = s.faulted := rfl
@[simp] theorem State.setFlags_refused (s : State) (f : Flags) : (s.setFlags f).refused = s.refused := rfl

/-! ### setPc -/

@[simp] theorem State.setPc_cycles (s : State) (v : Word) : (s.setPc v).cycles = s.cycles := rfl
@[simp] theorem State.setPc_ppuLast (s : State) (v : Word) : (s.setPc v).ppuLast = s.ppuLast := rfl
@[simp] theorem State.setPc_timerLast (s : State) (v : Word) : (s.setPc v).timerLast = s.timerLast := rfl
@[simp] theorem State.setPc_regs (s : State) (v : Word) : (s.setPc v).regs = { s.regs with pc := v } := rfl
@[simp] theorem State.setPc_ime (s : State) (v : Word) : (s.setPc v).ime = s.ime := rfl
@[simp] theorem State.setPc_imeDelay (s : State) (v : Word) : (s.setPc v).imeDelay = s.imeDelay := rfl
@[simp] theorem State.setPc_halted (s : State) (v : Word) : (s.setPc v).halted = s.halted := rfl
@[simp] theorem State.setPc_haltBug (s : State) (v : Word) : (s.setPc v).haltBug = s.haltBug := rfl
@[simp] theorem State.setPc_locked (s : State) (v : Word) : (s.setPc v).locked = s.locked := rfl
@[simp] theorem State.setPc_iflag (s : State) (v : Word) : (s.setPc v).iflag = s.iflag := rfl
@[simp] theorem State.setPc_ie (s : State) (v : Word) : (s.setPc v).ie = s.ie := rfl
@[simp] theorem State.setPc_wram (s : State) (v : Word) : (s.setPc v).wram = s.wram := rfl
@[simp] theorem State.setPc_hram (s : State) (v : Word) : (s.setPc v).hram = s.hram := rfl
@[simp] theorem State.setPc_gen (s : State) (v : Word) : (s.setPc v).gen = s.gen := rfl
@[simp] theorem State.setPc_boot (s : State) (v : Word) : (s.setPc v).boot = s.boot := rfl
@[simp] theorem State.setPc_bootMapped (s : State) (v : Word) : (s.setPc v).bootMapped = s.bootMapped := rfl
@[simp] theorem State.setPc_cart (s : State) (v : Word) : (s.setPc v).cart = s.cart := rfl
@[simp] theorem State.setPc_timer (s : State) (v : Word) : (s.setPc v).timer = s.timer := rfl
@[simp] theorem State.setPc_ppu (s : State) (v : Word) : (s.setPc v).ppu = s.ppu := rfl
@[simp] theorem State.setPc_joypad (s : State) (v : Word) : (s.setPc v).joypad = s.joypad := rfl
@[simp] theorem State.setPc_joypadParam (s : State) (v : Word) : (s.setPc v).joypadParam = s.joypadParam := rfl
@[simp] theorem State.setPc_faulted (s : State) (v : Word) : (s.setPc v).faulted = s.faulted := rfl
@[simp] theorem State.setPc_refused (s : State) (v : Word) : (s.setPc v).refused = s.refused := rfl

/-! ### setSp -/

@[simp] theorem State.setSp_cycles (s : State) (v : Word) : (s.setSp v).cycles = s.cycles := rfl
@[simp] theorem State.setSp_ppuLast (s : State) (v : Word) : (s.setSp v).ppuLast = s.ppuLast := rfl
@[simp] theorem State.setSp_timerLast (s : State) (v : Word) : (s.setSp v).timerLast = s.timerLast := rfl
@[simp] theorem State.setSp_regs (s : State) (v : Word) : (s.setSp v).regs = { s.regs with sp := v } := rfl
@[simp] theorem State.setSp_ime (s : State) (v : Word) : (s.setSp v).ime = s.ime := rfl
@[simp] theorem State.setSp_imeDelay (s : State) (v : Word) : (s.setSp v).imeDelay = s.imeDelay := rfl
@[simp] theorem State.setSp_halted (s : State) (v : Word) : (s.setSp v).halted = s.halted := rfl
@[simp] theorem State.setSp_haltBug (s : State) (v : Word) : (s.setSp v).haltBug = s.haltBug := rfl
@[simp] theorem State.setSp_locked (s : State) (v : Word) : (s.setSp v).locked = s.locked := rfl
@[simp] theorem State.setSp_iflag (s : State) (v : Word) : (s.setSp v).iflag = s.iflag := rfl
@[simp] theorem State.setSp_ie (s : State) (v : Word) : (s.setSp v).ie = s.ie := rfl
@[simp] theorem State.setSp_wram (s : State) (v : Word) : (s.setSp v).wram = s.wram := rfl
@[simp] theorem State.setSp_hram (s : State) (v : Word) : (s.setSp v).hram = s.hram := rfl
@[simp] theorem State.setSp_gen (s : State) (v : Word) : (s.setSp v).gen = s.gen := rfl
@[simp] theorem State.setSp_boot (s : State) (v : Word) : (s.setSp v).boot = s.boot := rfl
@[simp] theorem State.setSp_bootMapped (s : State) (v : Word) : (s.setSp v).bootMapped = s.bootMapped := rfl
@[simp] theorem State.setSp_cart (s : State) (v : Word) : (s.setSp v).cart = s.cart := rfl
@[simp] theorem State.setSp_timer (s : State) (v : Word) : (s.setSp v).timer = s.timer := rfl
@[simp] theorem State.setSp_ppu (s : State) (v : Word) : (s.setSp v).ppu = s.ppu := rfl
@[simp] theorem State.setSp_joypad (s : State) (v : Word) : (s.setSp v).joypad = s.joypad := rfl
@[simp] theorem State.setSp_joypadParam (s : State) (v : Word) : (s.setSp v).joypadParam = s.joypadParam := rfl
@[simp] theorem State.setSp_faulted (s : State) (v : Word) : (s.setSp v).faulted = s.faulted := rfl
@[simp] theorem State.setSp_refused (s : State) (v : Word) : (s.setSp v).refused = s.refused := rfl

/-! ### tick -/

@[simp] theorem State.tick_cycles (s : State) (n : Nat) : (s.tick n).cycles = s.cycles + BitVec.ofNat 64 n := rfl
@[simp] theorem State.tick_ppuLast (s : State) (n : Nat) : (s.tick n).ppuLast = s.ppuLast := rfl
@[simp] theorem State.tick_timerLast (s : State) (n : Nat) : (s.tick n).timerLast = s.timerLast := rfl
@[simp] theorem State.tick_regs (s : State) (n : Nat) : (s.tick n).regs = s.regs := rfl
@[simp] theorem State.tick_ime (s : State) (n : Nat) : (s.tick n).ime = s.ime := rfl
@[simp] theorem State.tick_imeDelay (s : State) (n : Nat) : (s.tick n).imeDelay = s.imeDelay := rfl
@[simp] theorem State.tick_halted (s : State) (n : Nat) : (s.tick n).halted = s.halted := rfl
@[simp] theorem State.tick_haltBug (s : State) (n : Nat) : (s.tick n).haltBug = s.haltBug := rfl
@[simp] theorem State.tick_locked (s : State) (n : Nat) : (s.tick n).locked = s.locked := rfl
@[simp] theorem State.tick_iflag (s : State) (n : Nat) : (s.tick n).iflag = s.iflag := rfl
@[simp] theorem State.tick_ie (s : State) (n : Nat) : (s.tick n).ie = s.ie := rfl
@[simp] theorem State.tick_wram (s : State) (n : Nat) : (s.tick n).wram = s.wram := rfl
@[simp] theorem State.tick_hram (s : State) (n : Nat) : (s.tick n).hram = s.hram := rfl
@[simp] theorem State.tick_gen (s : State) (n : Nat) : (s.tick n).gen = s.gen := rfl
@[simp] theorem State.tick_boot (s : State) (n : Nat) : (s.tick n).boot = s.boot := rfl
@[simp] theorem State.tick_bootMapped (s : State) (n : Nat) : (s.tick n).bootMapped = s.bootMapped := rfl
@[simp] theorem State.tick_cart (s : State) (n : Nat) : (s.tick n).cart = s.cart := rfl
@[simp] theorem State.tick_timer (s : State) (n : Nat) : (s.tick n).timer = s.timer := rfl
@[simp] theorem State.tick_ppu (s : State) (n : Nat) : (s.tick n).ppu = s.ppu := rfl
@[simp] theorem State.tick_joypad (s : State) (n : Nat) : (s.tick n).joypad = s.joypad := rfl
@[simp] theorem State.tick_joypadParam (s : State) (n : Nat) : (s.tick n).joypadParam = s.joypadParam := rfl
@[simp] theorem State.tick_faulted (s : State) (n : Nat) : (s.tick n).faulted = s.faulted := rfl
@[simp] theorem State.tick_refused (s : State) (n : Nat) : (s.tick n).refused = s.refused := rfl

/-! ### setIme -/

@[simp] theorem State.setIme_cycles (s : State) (b : Bool) (n : Nat) : (s.setIme b n).cycles = s.cycles := rfl
@[simp] theorem State.setIme_ppuLast (s : State) (b : Bool) (n : Nat) : (s.setIme b n).ppuLast = s.ppuLast := rfl
@[simp] theorem State.setIme_timerLast (s : State) (b : Bool) (n : Nat) : (s.setIme b n).timerLast = s.timerLast := rfl
@[simp] theorem State.setIme_regs (s : State) (b : Bool) (n : Nat) : (s.setIme b n).regs = s.regs := rfl
@[simp] theorem State.setIme_ime (s : State) (b : Bool) (n : Nat) : (s.setIme b n).ime = b := rfl
@[simp] theorem State.setIme_imeDelay (s : State) (b : Bool) (n : Nat) : (s.setIme b n).imeDelay = n := rfl
@[simp] theorem State.setIme_halted (s : State) (b : Bool) (n : Nat) : (s.setIme b n).halted = s.halted := rfl
@[simp] theorem State.setIme_haltBug (s : State) (b : Bool) (n : Nat) : (s.setIme b n).haltBug = s.haltBug := rfl
@[simp] theorem State.setIme_locked (s : State) (b : Bool) (n : Nat) : (s.setIme b n).locked = s.locked := rfl
@[simp] theorem State.setIme_iflag (s : State) (b : Bool) (n : Nat) : (s.setIme b n).iflag = s.iflag := rfl
@[simp] theorem State.setIme_ie (s : State) (b : Bool) (n : Nat) : (s.setIme b n).ie = s.ie := rfl
@[simp] theorem State.setIme_wram (s : State) (b : Bool) (n : Nat) : (s.setIme b n).wram = s.wram := rfl
@[simp] theorem State.setIme_hram (s : State) (b : Bool) (n : Nat) : (s.setIme b n).hram = s.hram := rfl
@[simp] theorem State.setIme_gen (s : State) (b : Bool) (n : Nat) : (s.setIme b n).gen = s.gen := rfl
@[simp] theorem State.setIme_boot (s : State) (b : Bool) (n : Nat) : (s.setIme b n).boot = s.boot := rfl
@[simp] theorem State.setIme_bootMapped (s : State) (b : Bool) (n : Nat) : (s.setIme b n).bootMapped = s.bootMapped := rfl
@[simp] theorem State.setIme_cart (s : State) (b : Bool) (n : Nat) : (s.setIme b n).cart = s.cart := rfl
@[simp] theorem State.setIme_timer (s : State) (b : Bool) (n : Nat) : (s.setIme b n).timer = s.timer := rfl
@[simp] theorem State.setIme_ppu (s : State) (b : Bool) (n : Nat) : (s.setIme b n).ppu = s.ppu := rfl
@[simp] theorem State.setIme_joypad (s : State) (b : Bool) (n : Nat) : (s.setIme b n).joypad = s.joypad := rfl
@[simp] theorem State.setIme_joypadParam (s : State) (b : Bool) (n : Nat) : (s.setIme b n).joypadParam = s.joypadParam := rfl
@[simp] theorem State.setIme_faulted (s : State) (b : Bool) (n : Nat) : (s.setIme b n).faulted = s.faulted := rfl
@[simp] theorem State.setIme_refused (s : State) (b : Bool) (n : Nat) : (s.setIme b n).refused = s.refused := rfl

/-! ### setHalt -/

@[simp] theorem State.setHalt_cycles (s : State) (b c : Bool) : (s.setHalt b c).cycles = s.cycles := rfl
@[simp] theorem State.setHalt_ppuLast (s : State) (b c : Bool) : (s.setHalt b c).ppuLast = s.ppuLast := rfl
@[simp] theorem State.setHalt_timerLast (s : State) (b c : Bool) : (s.setHalt b c).timerLast = s.timerLast := rfl
@[simp] theorem State.setHalt_regs (s : State) (b c : Bool) : (s.setHalt b c).regs = s.regs := rfl
@[simp] theorem State.setHalt_ime (s : State) (b c : Bool) : (s.setHalt b c).ime = s.ime := rfl
@[simp] theorem State.setHalt_imeDelay (s : State) (b c : Bool) : (s.setHalt b c).imeDelay = s.imeDelay := rfl
@[simp] theorem State.setHalt_halted (s : State) (b c : Bool) : (s.setHalt b c).halted = b := rfl
@[simp] theorem State.setHalt_haltBug (s : State) (b c : Bool) : (s.setHalt b c).haltBug = c := rfl
@[simp] theorem State.setHalt_locked (s : State) (b c : Bool) : (s.setHalt b c).locked = s.locked := rfl
@[simp] theorem State.setHalt_iflag (s : State) (b c : Bool) : (s.setHalt b c).iflag = s.iflag := rfl
@[simp] theorem State.setHalt_ie (s : State) (b c : Bool) : (s.setHalt b c).ie = s.ie := rfl
@[simp] theorem State.setHalt_wram (s : State) (b c : Bool) : (s.setHalt b c).wram = s.wram := rfl
@[simp] theorem State.setHalt_hram (s : State) (b c : Bool) : (s.setHalt b c).hram = s.hram := rfl
@[simp] theorem State.setHalt_gen (s : State) (b c : Bool) : (s.setHalt b c).gen = s.gen := rfl
@[simp] theorem State.setHalt_boot (s : State) (b c : Bool) : (s.setHalt b c).boot = s.boot := rfl
@[simp] theorem State.setHalt_bootMapped (s : State) (b c : Bool) : (s.setHalt b c).bootMapped = s.bootMapped := rfl
@[simp] theorem State.setHalt_cart (s : State) (b c : Bool) : (s.setHalt b c).cart = s.cart := rfl
@[simp] theorem State.setHalt_timer (s : State) (b c : Bool) : (s.setHalt b c).timer = s.timer := rfl
@[simp] theorem State.setHalt_ppu (s : State) (b c : Bool) : (s.setHalt b c).ppu = s.ppu := rfl
@[simp] theorem State.setHalt_joypad (s : State) (b c : Bool) : (s.setHalt b c).joypad = s.joypad := rfl
@[simp] theorem State.setHalt_joypadParam (s : State) (b c : Bool) : (s.setHalt b c).joypadParam = s.joypadParam := rfl
@[simp] theorem State.setHalt_faulted (s : State) (b c : Bool) : (s.setHalt b c).faulted = s.faulted := rfl
@[simp] theorem State.setHalt_refused (s : State) (b c : Bool) : (s.setHalt b c).refused = s.refused := rfl

/-! ### lock -/

@[simp] theorem State.lock_cycles (s : State) : (s.lock).cycles = s.cycles := rfl
@[simp] theorem State.lock_ppuLast (s : State) : (s.lock).ppuLast = s.ppuLast := rfl
@[simp] theorem State.lock_timerLast (s : State) : (s.lock).timerLast = s.timerLast := rfl
@[simp] theorem State.lock_regs (s : State) : (s.lock).regs = s.regs := rfl
@[simp] theorem State.lock_ime (s : State) : (s.lock).ime = s.ime := rfl
@[simp] theorem State.lock_imeDelay (s : State) : (s.lock).imeDelay = s.imeDelay := rfl
@[simp] theorem State.lock_halted (s : State) : (s.lock).halted = s.halted := rfl
@[simp] theorem State.lock_haltBug (s : State) : (s.lock).haltBug = s.haltBug := rfl
@[simp] theorem State.lock_locked (s : State) : (s.lock).locked = true := rfl
@[simp] theorem State.lock_iflag (s : State) : (s.lock).iflag = s.iflag := rfl
@[simp] theorem State.lock_ie (s : State) : (s.lock).ie = s.ie := rfl
@[simp] theorem State.lock_wram (s : State) : (s.lock).wram = s.wram := rfl
@[simp] theorem State.lock_hram (s : State) : (s.lock).hram = s.hram := rfl
@[simp] theorem State.lock_gen (s : State) : (s.lock).gen = s.gen := rfl
@[simp] theorem State.lock_boot (s : State) : (s.lock).boot = s.boot := rfl
@[simp] theorem State.lock_bootMapped (s : State) : (s.lock).bootMapped = s.bootMapped := rfl
@[simp] theorem State.lock_cart (s : State) : (s.lock).cart = s.cart := rfl
@[simp] theorem State.lock_timer (s : State) : (s.lock).timer = s.timer := rfl
@[simp] theorem State.lock_ppu (s : State) : (s.lock).ppu = s.ppu := rfl
@[simp] theorem State.lock_joypad (s : State) : (s.lock).joypad = s.joypad := rfl
@[simp] theorem State.lock_joypadParam (s : State) : (s.lock).joypadParam = s.joypadParam := rfl
@[simp] theorem State.lock_faulted (s : State) : (s.lock).faulted = s.faulted := rfl
@[simp] theorem State.lock_refused (s : State) : (s.lock).refused = s.refused := rfl

/-! ### refuse -/

@[simp] theorem State.refuse_cycles (s : State) (r : Refusal) : (s.refuse r).cycles = s.cycles := rfl
@[simp] theorem State.refuse_ppuLast (s : State) (r : Refusal) : (s.refuse r).ppuLast = s.ppuLast := rfl
@[simp] theorem State.refuse_timerLast (s : State) (r : Refusal) : (s.refuse r).timerLast = s.timerLast := rfl
@[simp] theorem State.refuse_regs (s : State) (r : Refusal) : (s.refuse r).regs = s.regs := rfl
@[simp] theorem State.refuse_ime (s : State) (r : Refusal) : (s.refuse r).ime = s.ime := rfl
@[simp] theorem State.refuse_imeDelay (s : State) (r : Refusal) : (s.refuse r).imeDelay = s.imeDelay := rfl
@[simp] theorem State.refuse_halted (s : State) (r : Refusal) : (s.refuse r).halted = s.halted := rfl
@[simp] theorem State.refuse_haltBug (s : State) (r : Refusal) : (s.refuse r).haltBug = s.haltBug := rfl
@[simp] theorem State.refuse_locked (s : State) (r : Refusal) : (s.refuse r).locked = s.locked := rfl
@[simp] theorem State.refuse_iflag (s : State) (r : Refusal) : (s.refuse r).iflag = s.iflag := rfl
@[simp] theorem State.refuse_ie (s : State) (r : Refusal) : (s.refuse r).ie = s.ie := rfl
@[simp] theorem State.refuse_wram (s : State) (r : Refusal) : (s.refuse r).wram = s.wram := rfl
@[simp] theorem State.refuse_hram (s : State) (r : Refusal) : (s.refuse r).hram = s.hram := rfl
@[simp] theorem State.refuse_gen (s : State) (r : Refusal) : (s.refuse r).gen = s.gen := rfl
@[simp] theorem State.refuse_boot (s : State) (r : Refusal) : (s.refuse r).boot = s.boot := rfl
@[simp] theorem State.refuse_bootMapped (s : State) (r : Refusal) : (s.refuse r).bootMapped = s.bootMapped := rfl
@[simp] theorem State.refuse_cart (s : State) (r : Refusal) : (s.refuse r).cart = s.cart := rfl
@[simp] theorem State.refuse_timer (s : State) (r : Refusal) : (s.refuse r).timer = s.timer := rfl
@[simp] theorem State.refuse_ppu (s : State) (r : Refusal) : (s.refuse r).ppu = s.ppu := rfl
@[simp] theorem State.refuse_joypad (s : State) (r : Refusal) : (s.refuse r).joypad = s.joypad := rfl
@[simp] theorem State.refuse_joypadParam (s : State) (r : Refusal) : (s.refuse r).joypadParam = s.joypadParam := rfl
@[simp] theorem State.refuse_faulted (s : State) (r : Refusal) : (s.refuse r).faulted = s.faulted := rfl
@[simp] theorem State.refuse_refused (s : State) (r : Refusal) : (s.refuse r).refused = some r := rfl

/-! ### acknowledge -/

@[simp] theorem State.acknowledge_cycles (s : State) (k : IrqSource) : (s.acknowledge k).cycles = s.cycles := rfl
@[simp] theorem State.acknowledge_ppuLast (s : State) (k : IrqSource) : (s.acknowledge k).ppuLast = s.ppuLast := rfl
@[simp] theorem State.acknowledge_timerLast (s : State) (k : IrqSource) : (s.acknowledge k).timerLast = s.timerLast := rfl
@[simp] theorem State.acknowledge_regs (s : State) (k : IrqSource) : (s.acknowledge k).regs = s.regs := rfl
@[simp] theorem State.acknowledge_ime (s : State) (k : IrqSource) : (s.acknowledge k).ime = false := rfl
@[simp] theorem State.acknowledge_imeDelay (s : State) (k : IrqSource) : (s.acknowledge k).imeDelay = 0 := rfl
@[simp] theorem State.acknowledge_halted (s : State) (k : IrqSource) : (s.acknowledge k).halted = s.halted := rfl
@[simp] theorem State.acknowledge_haltBug (s : State) (k : IrqSource) : (s.acknowledge k).haltBug = s.haltBug := rfl
@[simp] theorem State.acknowledge_locked (s : State) (k : IrqSource) : (s.acknowledge k).locked = s.locked := rfl
@[simp] theorem State.acknowledge_iflag (s : State) (k : IrqSource) : (s.acknowledge k).iflag = s.iflag &&& ~~~irqBit k := rfl
@[simp] theorem State.acknowledge_ie (s : State) (k : IrqSource) : (s.acknowledge k).ie = s.ie := rfl
@[simp] theorem State.acknowledge_wram (s : State) (k : IrqSource) : (s.acknowledge k).wram = s.wram := rfl
@[simp] theorem State.acknowledge_hram (s : State) (k : IrqSource) : (s.acknowledge k).hram = s.hram := rfl
@[simp] theorem State.acknowledge_gen (s : State) (k : IrqSource) : (s.acknowledge k).gen = s.gen := rfl
@[simp] theorem State.acknowledge_boot (s : State) (k : IrqSource) : (s.acknowledge k).boot = s.boot := rfl
@[simp] theorem State.acknowledge_bootMapped (s : State) (k : IrqSource) : (s.acknowledge k).bootMapped = s.bootMapped := rfl
@[simp] theorem State.acknowledge_cart (s : State) (k : IrqSource) : (s.acknowledge k).cart = s.cart := rfl
@[simp] theorem State.acknowledge_timer (s : State) (k : IrqSource) : (s.acknowledge k).timer = s.timer := rfl
@[simp] theorem State.acknowledge_ppu (s : State) (k : IrqSource) : (s.acknowledge k).ppu = s.ppu := rfl
@[simp] theorem State.acknowledge_joypad (s : State) (k : IrqSource) : (s.acknowledge k).joypad = s.joypad := rfl
@[simp] theorem State.acknowledge_joypadParam (s : State) (k : IrqSource) : (s.acknowledge k).joypadParam = s.joypadParam := rfl
@[simp] theorem State.acknowledge_faulted (s : State) (k : IrqSource) : (s.acknowledge k).faulted = s.faulted := rfl
@[simp] theorem State.acknowledge_refused (s : State) (k : IrqSource) : (s.acknowledge k).refused = s.refused := rfl

/-! ### wake -/

@[simp] theorem State.wake_cycles (s : State) : (s.wake).cycles = s.cycles := rfl
@[simp] theorem State.wake_ppuLast (s : State) : (s.wake).ppuLast = s.ppuLast := rfl
@[simp] theorem State.wake_timerLast (s : State) : (s.wake).timerLast = s.timerLast := rfl
@[simp] theorem State.wake_regs (s : State) : (s.wake).regs = s.regs := rfl
@[simp] theorem State.wake_ime (s : State) : (s.wake).ime = s.ime := rfl
@[simp] theorem State.wake_imeDelay (s : State) : (s.wake).imeDelay = s.imeDelay := rfl
@[simp] theorem State.wake_halted (s : State) : (s.wake).halted = false := rfl
@[simp] theorem State.wake_haltBug (s : State) : (s.wake).haltBug = s.haltBug := rfl
@[simp] theorem State.wake_locked (s : State) : (s.wake).locked = s.locked := rfl
@[simp] theorem State.wake_iflag (s : State) : (s.wake).iflag = s.iflag := rfl
@[simp] theorem State.wake_ie (s : State) : (s.wake).ie = s.ie := rfl
@[simp] theorem State.wake_wram (s : State) : (s.wake).wram = s.wram := rfl
@[simp] theorem State.wake_hram (s : State) : (s.wake).hram = s.hram := rfl
@[simp] theorem State.wake_gen (s : State) : (s.wake).gen = s.gen := rfl
@[simp] theorem State.wake_boot (s : State) : (s.wake).boot = s.boot := rfl
@[simp] theorem State.wake_bootMapped (s : State) : (s.wake).bootMapped = s.bootMapped := rfl
@[simp] theorem State.wake_cart (s : State) : (s.wake).cart = s.cart := rfl
@[simp] theorem State.wake_timer (s : State) : (s.wake).timer = s.timer := rfl
@[simp] theorem State.wake_ppu (s : State) : (s.wake).ppu = s.ppu := rfl
@[simp] theorem State.wake_joypad (s : State) : (s.wake).joypad = s.joypad := rfl
@[simp] theorem State.wake_joypadParam (s : State) : (s.wake).joypadParam = s.joypadParam := rfl
@[simp] theorem State.wake_faulted (s : State) : (s.wake).faulted = s.faulted := rfl
@[simp] theorem State.wake_refused (s : State) : (s.wake).refused = s.refused := rfl

/-! ### inputEvent -/

@[simp] theorem State.inputEvent_cycles (s : State) (e : InputEvent) : (s.inputEvent e).cycles = s.cycles := rfl
@[simp] theorem State.inputEvent_ppuLast (s : State) (e : InputEvent) : (s.inputEvent e).ppuLast = s.ppuLast := rfl
@[simp] theorem State.inputEvent_timerLast (s : State) (e : InputEvent) : (s.inputEvent e).timerLast = s.timerLast := rfl
@[simp] theorem State.inputEvent_regs (s : State) (e : InputEvent) : (s.inputEvent e).regs = s.regs := rfl
@[simp] theorem State.inputEvent_ime (s : State) (e : InputEvent) : (s.inputEvent e).ime = s.ime := rfl
@[simp] theorem State.inputEvent_imeDelay (s : State) (e : InputEvent) : (s.inputEvent e).imeDelay = s.imeDelay := rfl
@[simp] theorem State.inputEvent_halted (s : State) (e : InputEvent) : (s.inputEvent e).halted = s.halted := rfl
@[simp] theorem State.inputEvent_haltBug (s : State) (e : InputEvent) : (s.inputEvent e).haltBug = s.haltBug := rfl
@[simp] theorem State.inputEvent_locked (s : State) (e : InputEvent) : (s.inputEvent e).locked = s.locked := rfl
@[simp] theorem State.inputEvent_ie (s : State) (e : InputEvent) : (s.inputEvent e).ie = s.ie := rfl
@[simp] theorem State.inputEvent_wram (s : State) (e : InputEvent) : (s.inputEvent e).wram = s.wram := rfl
@[simp] theorem State.inputEvent_hram (s : State) (e : InputEvent) : (s.inputEvent e).hram = s.hram := rfl
@[simp] theorem State.inputEvent_gen (s : State) (e : InputEvent) : (s.inputEvent e).gen = s.gen := rfl
@[simp] theorem State.inputEvent_boot (s : State) (e : InputEvent) : (s.inputEvent e).boot = s.boot := rfl
@[simp] theorem State.inputEvent_bootMapped (s : State) (e : InputEvent) : (s.inputEvent e).bootMapped = s.bootMapped := rfl
@[simp] theorem State.inputEvent_cart (s : State) (e : InputEvent) : (s.inputEvent e).cart = s.cart := rfl
@[simp] theorem State.inputEvent_timer (s : State) (e : InputEvent) : (s.inputEvent e).timer = s.timer := rfl
@[simp] theorem State.inputEvent_ppu (s : State) (e : InputEvent) : (s.inputEvent e).ppu = s.ppu := rfl
@[simp] theorem State.inputEvent_joypadParam (s : State) (e : InputEvent) : (s.inputEvent e).joypadParam = s.joypadParam := rfl
@[simp] theorem State.inputEvent_faulted (s : State) (e : InputEvent) : (s.inputEvent e).faulted = s.faulted := rfl
@[simp] theorem State.inputEvent_refused (s : State) (e : InputEvent) : (s.inputEvent e).refused = s.refused := rfl
@[simp] theorem State.inputEvent_joypad (s : State) (e : InputEvent) :
    (s.inputEvent e).joypad = joypadAfter s.joypadParam s.joypad e := rfl
@[simp] theorem State.inputEvent_iflag (s : State) (e : InputEvent) :
    (s.inputEvent e).iflag = s.iflag ||| (if joypadRequest s.joypadParam s.joypad e then irqBit .joypad else 0) := rfl

/-! ### The register file -/

@[simp] theorem Regs.get8_set8_same (g : Regs) (r : Reg8) (v : Byte) : (g.set8 r v).get8 r = v := by
  cases r <;> rfl

theorem Regs.get8_set8_other (g : Regs) {r q : Reg8} (v : Byte) (h : q ≠ r) : (g.set8 r v).get8 q = g.get8 q := by
  cases r <;> cases q <;> first | rfl | exact absurd rfl h

@[simp] theorem Regs.set8_f (g : Regs) (r : Reg8) (v : Byte) : (g.set8 r v).f = g.f := by cases r <;> rfl

@[simp] theorem Regs.set8_sp (g : Regs) (r : Reg8) (v : Byte) : (g.set8 r v).sp = g.sp := by cases r <;> rfl

@[simp] theorem Regs.set8_pc (g : Regs) (r : Reg8) (v : Byte) : (g.set8 r v).pc = g.pc := by cases r <;> rfl

@[simp] theorem Regs.set16_pc (g : Regs) (r : Reg16) (v : Word) : (g.set16 r v).pc = g.pc := by cases r <;> rfl

theorem Regs.set16_f (g : Regs) (r : Reg16) (v : Word) : (g.set16 r v).f = if r = .af then loByte v else g.f := by
  cases r <;> rfl

theorem toNat_wordOf (h l : Byte) : (wordOf h l).toNat = 256 * h.toNat + l.toNat := by
  have := l.isLt
  unfold wordOf
  rw [BitVec.toNat_append, Nat.shiftLeft_eq, ← Nat.shiftLeft_eq, ← Nat.shiftLeft_add_eq_or_of_lt this, Nat.shiftLeft_eq]; omega

theorem toNat_hiByte (v : Word) : (hiByte v).toNat = v.toNat / 256 := by
  have := v.isLt
  unfold hiByte; simp [Nat.shiftRight_eq_div_pow]; omega

theorem toNat_loByte (v : Word) : (loByte v).toNat = v.toNat % 256 := by
  unfold loByte; simp

@[simp] theorem hiByte_wordOf (h l : Byte) : hiByte (wordOf h l) = h := by
  apply BitVec.eq_of_toNat_eq; rw [toNat_hiByte, toNat_wordOf]; omega

@[simp] theorem loByte_wordOf (h l : Byte) : loByte (wordOf h l) = l := by
  apply BitVec.eq_of_toNat_eq; rw [toNat_loByte, toNat_wordOf]; omega

@[simp] theorem wordOf_hi_lo (v : Word) : wordOf (hiByte v) (loByte v) = v := by
  apply BitVec.eq_of_toNat_eq; rw [toNat_wordOf, toNat_hiByte, toNat_loByte]; omega

@[simp] theorem Regs.get16_set16_same (g : Regs) (r : Reg16) (v : Word) : (g.set16 r v).get16 r = v := by
  cases r <;> simp [Regs.get16, Regs.set16]

/-! ### Flags -/

@[simp] theorem flagsOf_pack (f : Flags) : flagsOf f.pack = f := by
  rcases f with ⟨z, n, h, c⟩
  cases z <;> cases n <;> cases h <;> cases c <;> rfl

/-- A packed F has bits 3 to 0 zero (R34). -/
@[simp] theorem Flags.pack_low (f : Flags) : f.pack &&& 0x0F = 0 := by
  rcases f with ⟨z, n, h, c⟩
  cases z <;> cases n <;> cases h <;> cases c <;> rfl

/-! ### Sequencing -/

@[simp] theorem State.andThen_of_none (s : State) (k : State → State) (h : s.faulted = none) : s.andThen k = k s := by
  simp [State.andThen, h]

theorem State.andThen_of_some (s : State) (k : State → State) {r : Fault} (h : s.faulted = some r) :
    s.andThen k = s := by
  simp [State.andThen, h]

end Sys2Proof.Machine
end

