-- ==== Sys2Proof/Laws/Bus.lean ====
section
/-! SUPPORT. Everything a bus write, a bus read, a device catch-up and the stack operations can do, each said once. -/

namespace Sys2Proof.Machine

/-! ### One bus write -/

/-- What holds of both branches holds of the choice. -/
theorem ite_elim {α : Type} {P : α → Prop} {c : Prop} [Decidable c] {x y : α} (hx : c → P x) (hy : ¬ c → P y) :
    P (if c then x else y) := by
  split
  · exact hx ‹_›
  · exact hy ‹_›

/-- What a store does, one case per device of R91: a predicate that holds of each outcome holds of the store. -/
theorem State.store_elim {P : State → Prop} (s : State) {a : Nat} (v : Byte) (ha : a < 0x10000)
    (hcart : inCart a = true → P (s.writeCart a v))
    (hwram : ∀ k, k < Config.wramSize → P { s with wram := memSet s.wram k v })
    (hhram : ∀ k, k < Config.hramSize → P { s with hram := memSet s.hram k v })
    (hreg : P (s.writePpuReg a v))
    (hoam : 0xFE00 ≤ a → a ≤ 0xFE9F → P { s with ppu := s.ppu.writeOam a v })
    (hvram : 0x8000 ≤ a → a ≤ 0x9FFF → P { s with ppu := s.ppu.writeVram a v })
    (htimer : P { s with timer := s.timer.write a v })
    (hie : P { s with ie := v }) (hif : P { s with iflag := v.setWidth 5 })
    (hjoy : P (s.inputEvent (.write v)))
    (hboot : P { s with bootMapped := s.bootMapped && v == 0 })
    (hgen : P { s with gen := memSet s.gen a v }) : P (s.store a v) := by
  unfold State.store
  refine ite_elim hcart fun _ => ite_elim (fun h => hwram _ ?_) fun _ => ite_elim (fun h => hwram _ ?_) fun _ =>
    ite_elim (fun h => hhram _ ?_) fun _ => ite_elim (fun _ => hreg) fun _ => ite_elim (fun h => hoam h.1 h.2) fun _ =>
    ite_elim (fun h => hvram h.1 h.2) fun _ => ite_elim (fun _ => htimer) fun _ => ite_elim (fun _ => hie) fun _ =>
    ite_elim (fun _ => hif) fun _ => ite_elim (fun _ => hjoy) fun _ => ite_elim (fun _ => hboot) fun _ => hgen
  · simp only [Config.wramSize]; omega
  · simp only [Config.wramSize]; omega
  · simp only [inHram, Bool.and_eq_true, decide_eq_true_eq] at h
    simp only [Config.hramSize]; omega

theorem CpuFrame.refl (s : State) : CpuFrame s s := by constructor <;> rfl

theorem CpuFrame.trans {s t u : State} (h : CpuFrame s t) (k : CpuFrame t u) : CpuFrame s u := by
  obtain ⟨h1, h2, h3, h4, h5, h6, h7, h8, h9, h10, h11, h12, h13, h14, h15, h16, h17⟩ := h
  obtain ⟨k1, k2, k3, k4, k5, k6, k7, k8, k9, k10, k11, k12, k13, k14, k15, k16, k17⟩ := k
  constructor <;> simp [*]

/-- The cartridge's images, counts and kind are never written (R51). -/
theorem Cartridge.write_launch (c : Cartridge) (a : Nat) (v : Byte) :
    (c.write a v).rom = c.rom ∧ (c.write a v).kind = c.kind ∧ (c.write a v).romBanks = c.romBanks ∧
      (c.write a v).ramBanks = c.ramBanks ∧ (c.write a v).hasRam = c.hasRam := by
  unfold Cartridge.write Cartridge.writeMbc1 Cartridge.cramSet
  repeat' split
  all_goals exact ⟨rfl, rfl, rfl, rfl, rfl⟩

/-- A cartridge write as one record. -/
theorem State.writeCart_eq (s : State) (a : Nat) (v : Byte) :
    s.writeCart a v =
      { s with cart := s.cart.write a v,
               faulted := match (s.cart.write a v).bankFault a with
                 | none => s.faulted
                 | some r => some r } := by
  unfold State.writeCart
  dsimp only
  cases (s.cart.write a v).bankFault a <;> rfl

theorem State.writeCart_frame (s : State) (a : Nat) (v : Byte) : CpuFrame s (s.writeCart a v) := by
  obtain ⟨h1, h2, h3, h4, h5⟩ := s.cart.write_launch a v
  rw [State.writeCart_eq]
  constructor <;> first | rfl | assumption

/-- No bus write reaches the CPU, the Clock, the images or the refusal mark. -/
theorem State.store_frame (s : State) {a : Nat} (v : Byte) (ha : a < 0x10000) : CpuFrame s (s.store a v) := by
  refine State.store_elim (P := CpuFrame s) s v ha (fun _ => s.writeCart_frame a v) ?_ ?_ ?_ ?_ ?_ ?_ ?_ ?_ ?_ ?_ ?_ <;>
    intros <;> constructor <;> rfl

theorem State.write_frame (s : State) (a : Word) (v : Byte) : CpuFrame s (s.write a v) := by
  unfold State.write
  split
  · exact CpuFrame.refl s
  · exact s.store_frame v a.isLt

@[simp] theorem State.write_regs (s : State) (a : Word) (v : Byte) : (s.write a v).regs = s.regs := (s.write_frame a v).regs
@[simp] theorem State.write_cycles (s : State) (a : Word) (v : Byte) : (s.write a v).cycles = s.cycles :=
  (s.write_frame a v).cycles
@[simp] theorem State.write_ppuLast (s : State) (a : Word) (v : Byte) : (s.write a v).ppuLast = s.ppuLast :=
  (s.write_frame a v).ppuLast
@[simp] theorem State.write_timerLast (s : State) (a : Word) (v : Byte) : (s.write a v).timerLast = s.timerLast :=
  (s.write_frame a v).timerLast
@[simp] theorem State.write_ime (s : State) (a : Word) (v : Byte) : (s.write a v).ime = s.ime := (s.write_frame a v).ime
@[simp] theorem State.write_imeDelay (s : State) (a : Word) (v : Byte) : (s.write a v).imeDelay = s.imeDelay :=
  (s.write_frame a v).imeDelay
@[simp] theorem State.write_halted (s : State) (a : Word) (v : Byte) : (s.write a v).halted = s.halted :=
  (s.write_frame a v).halted
@[simp] theorem State.write_haltBug (s : State) (a : Word) (v : Byte) : (s.write a v).haltBug = s.haltBug :=
  (s.write_frame a v).haltBug
@[simp] theorem State.write_locked (s : State) (a : Word) (v : Byte) : (s.write a v).locked = s.locked :=
  (s.write_frame a v).locked
@[simp] theorem State.write_boot (s : State) (a : Word) (v : Byte) : (s.write a v).boot = s.boot := (s.write_frame a v).boot
@[simp] theorem State.write_refused (s : State) (a : Word) (v : Byte) : (s.write a v).refused = s.refused :=
  (s.write_frame a v).refused

/-- The CPU's part of the state, which no bus access reads or writes: `s` with the Clock, the watermarks, the registers, the
control state and the refusal mark of `u`. -/
def State.withCpu (s u : State) : State :=
  { s with cycles := u.cycles, ppuLast := u.ppuLast, timerLast := u.timerLast, regs := u.regs, ime := u.ime,
           imeDelay := u.imeDelay, halted := u.halted, haltBug := u.haltBug, locked := u.locked, refused := u.refused }

theorem State.store_withCpu (s u : State) (a : Nat) (v : Byte) : (s.withCpu u).store a v = (s.store a v).withCpu u := by
  unfold State.store
  rw [State.writeCart_eq, State.writeCart_eq]
  iterate 12
    first
    | rfl
    | (refine ite_congr rfl (fun _ => ?_) (fun _ => ?_) |>.trans (apply_ite (fun t : State => t.withCpu u) _ _ _).symm <;> try rfl)

theorem State.write_withCpu (s u : State) (a : Word) (v : Byte) : (s.withCpu u).write a v = (s.write a v).withCpu u := by
  unfold State.write
  exact (ite_congr rfl (fun _ => rfl) fun _ => State.store_withCpu s u a.toNat v).trans
    (apply_ite (fun t : State => t.withCpu u) _ _ _).symm

@[simp] theorem State.read_withCpu (s u : State) (a : Word) : (s.withCpu u).read a = s.read a := rfl

/-- A state with the CPU's part of one it agrees with is itself. -/
theorem CpuFrame.withCpu {s t : State} (h : CpuFrame s t) : t.withCpu s = t := by
  obtain ⟨h1, h2, h3, h4, h5, h6, h7, h8, h9, -, -, -, -, -, -, -, h16⟩ := h
  unfold State.withCpu
  rw [← h1, ← h2, ← h3, ← h4, ← h5, ← h6, ← h7, ← h8, ← h9, ← h16]

/-- A write and a change of SP commute. -/
theorem State.write_setSp (s : State) (w : Word) (a : Word) (v : Byte) : (s.setSp w).write a v = (s.write a v).setSp w := by
  have h := s.write_withCpu (s.setSp w) a v
  have hc := (s.write_frame a v).withCpu
  have hs : s.withCpu (s.setSp w) = s.setSp w := rfl
  rw [hs] at h
  rw [h]
  conv_rhs => rw [← hc]
  simp only [State.withCpu, State.setSp]

/-! ### Two bus writes and the stack -/

/-- `write16` when neither byte faults. -/
theorem State.write16_of_ok {s : State} {a v : Word} (h : (s.write a (loByte v)).faulted = none) :
    s.write16 a v = s.writeTwice a (loByte v) (a + 1) (hiByte v) :=
  State.andThen_of_none _ _ h

/-- `push16` when the first byte does not fault. -/
theorem State.push16_of_ok {s : State} {v : Word} (h : (s.write (s.regs.sp - 1) (hiByte v)).faulted = none) :
    s.push16 v = (s.writeTwice (s.regs.sp - 1) (hiByte v) (s.regs.sp - 2) (loByte v)).setSp (s.regs.sp - 2) := by
  have hsp : s.regs.sp - 1 - 1 = s.regs.sp - 2 := by
    rw [BitVec.sub_sub]; rfl
  unfold State.push16
  rw [State.write_setSp, State.andThen_of_none ((s.write (s.regs.sp - 1) (hiByte v)).setSp (s.regs.sp - 1)) _ h]
  show (((s.write (s.regs.sp - 1) (hiByte v)).setSp (s.regs.sp - 1)).setSp (s.regs.sp - 1 - 1)).write (s.regs.sp - 1 - 1) _ = _
  rw [hsp, State.write_setSp, State.write_setSp]
  rfl

/-- `push16` when the first byte faults: SP has moved by one, and the second byte is not written. -/
theorem State.push16_of_fault {s : State} {v : Word} {r : Fault}
    (h : (s.write (s.regs.sp - 1) (hiByte v)).faulted = some r) :
    s.push16 v = (s.write (s.regs.sp - 1) (hiByte v)).setSp (s.regs.sp - 1) := by
  unfold State.push16
  rw [State.write_setSp]
  exact State.andThen_of_some _ _ h

/-! ### The devices' catch-up -/

/-- A PPU tick changes the PPU and IF, nothing else. -/
theorem State.ppuTick_eq (s : State) :
    s.ppuTick = { s with ppu := s.ppuTick.ppu, iflag := s.ppuTick.iflag } := by
  unfold State.ppuTick
  by_cases h : s.ppu.dmaActive = true
  · rw [if_pos h]; rfl
  · rw [if_neg h]; rfl

theorem State.ppuTicks_eq (n : Nat) (s : State) :
    State.ppuTicks n s = { s with ppu := (State.ppuTicks n s).ppu, iflag := (State.ppuTicks n s).iflag } := by
  induction n generalizing s with
  | zero => rfl
  | succ k ih =>
    rw [State.ppuTicks, ih, s.ppuTick_eq]

/-- A catch-up changes the PPU, the Timer, IF and the watermarks, which become the Clock; nothing else. -/
theorem State.catchUp_eq (s : State) :
    s.catchUp = { s with ppu := s.catchUp.ppu, timer := s.catchUp.timer, iflag := s.catchUp.iflag, ppuLast := s.cycles,
                         timerLast := s.cycles } := by
  have h := State.ppuTicks_eq (s.cycles - s.ppuLast).toNat s
  unfold State.catchUp State.ppuUpdate
  rw [h]
  rfl

@[simp] theorem State.catchUp_regs (s : State) : s.catchUp.regs = s.regs := by rw [s.catchUp_eq]
@[simp] theorem State.catchUp_cycles (s : State) : s.catchUp.cycles = s.cycles := by rw [s.catchUp_eq]
@[simp] theorem State.catchUp_ppuLast (s : State) : s.catchUp.ppuLast = s.cycles := by rw [s.catchUp_eq]
@[simp] theorem State.catchUp_timerLast (s : State) : s.catchUp.timerLast = s.cycles := by rw [s.catchUp_eq]
@[simp] theorem State.catchUp_ime (s : State) : s.catchUp.ime = s.ime := by rw [s.catchUp_eq]
@[simp] theorem State.catchUp_imeDelay (s : State) : s.catchUp.imeDelay = s.imeDelay := by rw [s.catchUp_eq]
@[simp] theorem State.catchUp_halted (s : State) : s.catchUp.halted = s.halted := by rw [s.catchUp_eq]
@[simp] theorem State.catchUp_haltBug (s : State) : s.catchUp.haltBug = s.haltBug := by rw [s.catchUp_eq]
@[simp] theorem State.catchUp_locked (s : State) : s.catchUp.locked = s.locked := by rw [s.catchUp_eq]
@[simp] theorem State.catchUp_ie (s : State) : s.catchUp.ie = s.ie := by rw [s.catchUp_eq]
@[simp] theorem State.catchUp_wram (s : State) : s.catchUp.wram = s.wram := by rw [s.catchUp_eq]
@[simp] theorem State.catchUp_hram (s : State) : s.catchUp.hram = s.hram := by rw [s.catchUp_eq]
@[simp] theorem State.catchUp_gen (s : State) : s.catchUp.gen = s.gen := by rw [s.catchUp_eq]
@[simp] theorem State.catchUp_boot (s : State) : s.catchUp.boot = s.boot := by rw [s.catchUp_eq]
@[simp] theorem State.catchUp_bootMapped (s : State) : s.catchUp.bootMapped = s.bootMapped := by rw [s.catchUp_eq]
@[simp] theorem State.catchUp_cart (s : State) : s.catchUp.cart = s.cart := by rw [s.catchUp_eq]
@[simp] theorem State.catchUp_joypad (s : State) : s.catchUp.joypad = s.joypad := by rw [s.catchUp_eq]
@[simp] theorem State.catchUp_faulted (s : State) : s.catchUp.faulted = s.faulted := by rw [s.catchUp_eq]
@[simp] theorem State.catchUp_refused (s : State) : s.catchUp.refused = s.refused := by rw [s.catchUp_eq]

end Sys2Proof.Machine
end

