-- ==== Sys2Proof/Laws/Exec.lean ====
section
/-! SUPPORT. Everything an instruction can do, said once: `exec_cases` reduces a claim about all instructions to one claim
about each shape of Operands.lean, and `Closed` reduces an invariant to the operations the shapes are made of. -/

namespace Sys2Proof.Machine

/-- The T-cycles an instruction can cost (the `cycles` columns of spec/opcode_table.json). -/
def costs : List Nat := [4, 8, 12, 16, 20, 24]

/-- `P` holds of what each shape answers in the state `s`. -/
structure Shapes (s : State) (P : Answer → Prop) : Prop where
  loadReg : ∀ r v c, c ∈ costs → P (loadReg r v c s)
  loadPair : ∀ rr v c, rr ≠ .af → c ∈ costs → P (loadPair rr v c s)
  storeByte : ∀ a v c, c ∈ costs → P (storeByte a v c s)
  loadAStep : ∀ d c, c ∈ costs → P (loadAStep d c s)
  storeAStep : ∀ d c, c ∈ costs → P (storeAStep d c s)
  storeSp : ∀ nn c, c ∈ costs → P (storeSp nn c s)
  pushPair : ∀ rr c, c ∈ costs → P (pushPair rr c s)
  popPair : ∀ rr c, rr ≠ .af → c ∈ costs → P (popPair rr c s)
  popAf : ∀ c, c ∈ costs → P (popAfMasked c s)
  spPlus : ∀ rr e c, rr ≠ .af → c ∈ costs → P (spPlusInto rr e c s)
  alu : ∀ op v c, c ∈ costs → P (aluWith op v c s)
  modifyReg : ∀ g r c, c ∈ costs → P (modifyReg g r c s)
  modifyMem : ∀ g c, c ∈ costs → P (modifyMemHl g c s)
  writeFlags : ∀ f c, c ∈ costs → P (writeFlags f c s)
  addHl : ∀ rr c, c ∈ costs → P (addHl rr c s)
  jumpTo : ∀ t c, c ∈ costs → P (jumpTo t c s)
  jumpIf : ∀ cc t c d, c ∈ costs → d ∈ costs → P (jumpIf cc t c d s)
  callTo : ∀ t c, c ∈ costs → P (callTo t c s)
  callIf : ∀ cc t c d, c ∈ costs → d ∈ costs → P (callIf cc t c d s)
  returnWith : ∀ b c, c ∈ costs → P (returnWith b c s)
  returnIf : ∀ cc c d, c ∈ costs → d ∈ costs → P (returnIf cc c d s)
  nop : P (.next (s.tick 4))
  halt : P (.next (s.halt.tick 4))
  lock : P (.next (s.lock.tick 4))
  di : P (.next ((s.setIme false 0).tick 4))
  ei : P (.next ((s.setIme s.ime 2).tick 4))
  stop : P (.next (s.refuse (.stopInstruction s.lastOpcode)))

/-- What holds of every shape holds of every instruction. -/
theorem exec_cases {s : State} {P : Answer → Prop} (h : Shapes s P) (i : Instr) : P (exec i s) :=
  match i with
  | .nop => h.nop
  | .ldBcNn nn => h.loadPair .bc nn 12 (by decide) (by decide)
  | .ldMemBcA => h.storeByte s.bc s.regs.a 8 (by decide)
  | .incBc => h.loadPair .bc (s.get16 .bc + 1) 8 (by decide) (by decide)
  | .incB => h.modifyReg incByte .b 4 (by decide)
  | .decB => h.modifyReg decByte .b 4 (by decide)
  | .ldBN n => h.loadReg .b n 8 (by decide)
  | .rlca => h.modifyReg (rotateA .rlc) .a 4 (by decide)
  | .ldMemNnSp nn => h.storeSp nn 20 (by decide)
  | .addHlBc => h.addHl .bc 8 (by decide)
  | .ldAMemBc => h.loadReg .a (s.read s.bc) 8 (by decide)
  | .decBc => h.loadPair .bc (s.get16 .bc - 1) 8 (by decide) (by decide)
  | .incC => h.modifyReg incByte .c 4 (by decide)
  | .decC => h.modifyReg decByte .c 4 (by decide)
  | .ldCN n => h.loadReg .c n 8 (by decide)
  | .rrca => h.modifyReg (rotateA .rrc) .a 4 (by decide)
  | .stop => h.stop
  | .ldDeNn nn => h.loadPair .de nn 12 (by decide) (by decide)
  | .ldMemDeA => h.storeByte s.de s.regs.a 8 (by decide)
  | .incDe => h.loadPair .de (s.get16 .de + 1) 8 (by decide) (by decide)
  | .incD => h.modifyReg incByte .d 4 (by decide)
  | .decD => h.modifyReg decByte .d 4 (by decide)
  | .ldDN n => h.loadReg .d n 8 (by decide)
  | .rla => h.modifyReg (rotateA .rl) .a 4 (by decide)
  | .jr e => h.jumpTo (s.relative e) 12 (by decide)
  | .addHlDe => h.addHl .de 8 (by decide)
  | .ldAMemDe => h.loadReg .a (s.read s.de) 8 (by decide)
  | .decDe => h.loadPair .de (s.get16 .de - 1) 8 (by decide) (by decide)
  | .incE => h.modifyReg incByte .e 4 (by decide)
  | .decE => h.modifyReg decByte .e 4 (by decide)
  | .ldEN n => h.loadReg .e n 8 (by decide)
  | .rra => h.modifyReg (rotateA .rr) .a 4 (by decide)
  | .jrNz e => h.jumpIf .nz (s.relative e) 12 8 (by decide) (by decide)
  | .ldHlNn nn => h.loadPair .hl nn 12 (by decide) (by decide)
  | .ldMemHlIncA => h.storeAStep 1 8 (by decide)
  | .incHl => h.loadPair .hl (s.get16 .hl + 1) 8 (by decide) (by decide)
  | .incH => h.modifyReg incByte .h 4 (by decide)
  | .decH => h.modifyReg decByte .h 4 (by decide)
  | .ldHN n => h.loadReg .h n 8 (by decide)
  | .daa => h.modifyReg daaByte .a 4 (by decide)
  | .jrZ e => h.jumpIf .z (s.relative e) 12 8 (by decide) (by decide)
  | .addHlHl => h.addHl .hl 8 (by decide)
  | .ldAMemHlInc => h.loadAStep 1 8 (by decide)
  | .decHl => h.loadPair .hl (s.get16 .hl - 1) 8 (by decide) (by decide)
  | .incL => h.modifyReg incByte .l 4 (by decide)
  | .decL => h.modifyReg decByte .l 4 (by decide)
  | .ldLN n => h.loadReg .l n 8 (by decide)
  | .cpl => h.modifyReg cplByte .a 4 (by decide)
  | .jrNc e => h.jumpIf .nc (s.relative e) 12 8 (by decide) (by decide)
  | .ldSpNn nn => h.loadPair .sp nn 12 (by decide) (by decide)
  | .ldMemHlDecA => h.storeAStep (-1) 8 (by decide)
  | .incSp => h.loadPair .sp (s.get16 .sp + 1) 8 (by decide) (by decide)
  | .incMemHl => h.modifyMem incByte 12 (by decide)
  | .decMemHl => h.modifyMem decByte 12 (by decide)
  | .ldMemHlN n => h.storeByte s.hl n 12 (by decide)
  | .scf => h.writeFlags (scfFlags s.flags) 4 (by decide)
  | .jrC e => h.jumpIf .c (s.relative e) 12 8 (by decide) (by decide)
  | .addHlSp => h.addHl .sp 8 (by decide)
  | .ldAMemHlDec => h.loadAStep (-1) 8 (by decide)
  | .decSp => h.loadPair .sp (s.get16 .sp - 1) 8 (by decide) (by decide)
  | .incA => h.modifyReg incByte .a 4 (by decide)
  | .decA => h.modifyReg decByte .a 4 (by decide)
  | .ldAN n => h.loadReg .a n 8 (by decide)
  | .ccf => h.writeFlags (ccfFlags s.flags) 4 (by decide)
  | .ldBB => h.loadReg .b (s.get8 .b) 4 (by decide)
  | .ldBC => h.loadReg .b (s.get8 .c) 4 (by decide)
  | .ldBD => h.loadReg .b (s.get8 .d) 4 (by decide)
  | .ldBE => h.loadReg .b (s.get8 .e) 4 (by decide)
  | .ldBH => h.loadReg .b (s.get8 .h) 4 (by decide)
  | .ldBL => h.loadReg .b (s.get8 .l) 4 (by decide)
  | .ldBMemHl => h.loadReg .b (s.read s.hl) 8 (by decide)
  | .ldBA => h.loadReg .b (s.get8 .a) 4 (by decide)
  | .ldCB => h.loadReg .c (s.get8 .b) 4 (by decide)
  | .ldCC => h.loadReg .c (s.get8 .c) 4 (by decide)
  | .ldCD => h.loadReg .c (s.get8 .d) 4 (by decide)
  | .ldCE => h.loadReg .c (s.get8 .e) 4 (by decide)
  | .ldCH => h.loadReg .c (s.get8 .h) 4 (by decide)
  | .ldCL => h.loadReg .c (s.get8 .l) 4 (by decide)
  | .ldCMemHl => h.loadReg .c (s.read s.hl) 8 (by decide)
  | .ldCA => h.loadReg .c (s.get8 .a) 4 (by decide)
  | .ldDB => h.loadReg .d (s.get8 .b) 4 (by decide)
  | .ldDC => h.loadReg .d (s.get8 .c) 4 (by decide)
  | .ldDD => h.loadReg .d (s.get8 .d) 4 (by decide)
  | .ldDE => h.loadReg .d (s.get8 .e) 4 (by decide)
  | .ldDH => h.loadReg .d (s.get8 .h) 4 (by decide)
  | .ldDL => h.loadReg .d (s.get8 .l) 4 (by decide)
  | .ldDMemHl => h.loadReg .d (s.read s.hl) 8 (by decide)
  | .ldDA => h.loadReg .d (s.get8 .a) 4 (by decide)
  | .ldEB => h.loadReg .e (s.get8 .b) 4 (by decide)
  | .ldEC => h.loadReg .e (s.get8 .c) 4 (by decide)
  | .ldED => h.loadReg .e (s.get8 .d) 4 (by decide)
  | .ldEE => h.loadReg .e (s.get8 .e) 4 (by decide)
  | .ldEH => h.loadReg .e (s.get8 .h) 4 (by decide)
  | .ldEL => h.loadReg .e (s.get8 .l) 4 (by decide)
  | .ldEMemHl => h.loadReg .e (s.read s.hl) 8 (by decide)
  | .ldEA => h.loadReg .e (s.get8 .a) 4 (by decide)
  | .ldHB => h.loadReg .h (s.get8 .b) 4 (by decide)
  | .ldHC => h.loadReg .h (s.get8 .c) 4 (by decide)
  | .ldHD => h.loadReg .h (s.get8 .d) 4 (by decide)
  | .ldHE => h.loadReg .h (s.get8 .e) 4 (by decide)
  | .ldHH => h.loadReg .h (s.get8 .h) 4 (by decide)
  | .ldHL => h.loadReg .h (s.get8 .l) 4 (by decide)
  | .ldHMemHl => h.loadReg .h (s.read s.hl) 8 (by decide)
  | .ldHA => h.loadReg .h (s.get8 .a) 4 (by decide)
  | .ldLB => h.loadReg .l (s.get8 .b) 4 (by decide)
  | .ldLC => h.loadReg .l (s.get8 .c) 4 (by decide)
  | .ldLD => h.loadReg .l (s.get8 .d) 4 (by decide)
  | .ldLE => h.loadReg .l (s.get8 .e) 4 (by decide)
  | .ldLH => h.loadReg .l (s.get8 .h) 4 (by decide)
  | .ldLL => h.loadReg .l (s.get8 .l) 4 (by decide)
  | .ldLMemHl => h.loadReg .l (s.read s.hl) 8 (by decide)
  | .ldLA => h.loadReg .l (s.get8 .a) 4 (by decide)
  | .ldMemHlB => h.storeByte s.hl (s.get8 .b) 8 (by decide)
  | .ldMemHlC => h.storeByte s.hl (s.get8 .c) 8 (by decide)
  | .ldMemHlD => h.storeByte s.hl (s.get8 .d) 8 (by decide)
  | .ldMemHlE => h.storeByte s.hl (s.get8 .e) 8 (by decide)
  | .ldMemHlH => h.storeByte s.hl (s.get8 .h) 8 (by decide)
  | .ldMemHlL => h.storeByte s.hl (s.get8 .l) 8 (by decide)
  | .halt => h.halt
  | .ldMemHlA => h.storeByte s.hl (s.get8 .a) 8 (by decide)
  | .ldAB => h.loadReg .a (s.get8 .b) 4 (by decide)
  | .ldAC => h.loadReg .a (s.get8 .c) 4 (by decide)
  | .ldAD => h.loadReg .a (s.get8 .d) 4 (by decide)
  | .ldAE => h.loadReg .a (s.get8 .e) 4 (by decide)
  | .ldAH => h.loadReg .a (s.get8 .h) 4 (by decide)
  | .ldAL => h.loadReg .a (s.get8 .l) 4 (by decide)
  | .ldAMemHl => h.loadReg .a (s.read s.hl) 8 (by decide)
  | .ldAA => h.loadReg .a (s.get8 .a) 4 (by decide)
  | .addAB => h.alu .add (s.get8 .b) 4 (by decide)
  | .addAC => h.alu .add (s.get8 .c) 4 (by decide)
  | .addAD => h.alu .add (s.get8 .d) 4 (by decide)
  | .addAE => h.alu .add (s.get8 .e) 4 (by decide)
  | .addAH => h.alu .add (s.get8 .h) 4 (by decide)
  | .addAL => h.alu .add (s.get8 .l) 4 (by decide)
  | .addAMemHl => h.alu .add (s.read s.hl) 8 (by decide)
  | .addAA => h.alu .add (s.get8 .a) 4 (by decide)
  | .adcAB => h.alu .adc (s.get8 .b) 4 (by decide)
  | .adcAC => h.alu .adc (s.get8 .c) 4 (by decide)
  | .adcAD => h.alu .adc (s.get8 .d) 4 (by decide)
  | .adcAE => h.alu .adc (s.get8 .e) 4 (by decide)
  | .adcAH => h.alu .adc (s.get8 .h) 4 (by decide)
  | .adcAL => h.alu .adc (s.get8 .l) 4 (by decide)
  | .adcAMemHl => h.alu .adc (s.read s.hl) 8 (by decide)
  | .adcAA => h.alu .adc (s.get8 .a) 4 (by decide)
  | .subB => h.alu .sub (s.get8 .b) 4 (by decide)
  | .subC => h.alu .sub (s.get8 .c) 4 (by decide)
  | .subD => h.alu .sub (s.get8 .d) 4 (by decide)
  | .subE => h.alu .sub (s.get8 .e) 4 (by decide)
  | .subH => h.alu .sub (s.get8 .h) 4 (by decide)
  | .subL => h.alu .sub (s.get8 .l) 4 (by decide)
  | .subMemHl => h.alu .sub (s.read s.hl) 8 (by decide)
  | .subA => h.alu .sub (s.get8 .a) 4 (by decide)
  | .sbcAB => h.alu .sbc (s.get8 .b) 4 (by decide)
  | .sbcAC => h.alu .sbc (s.get8 .c) 4 (by decide)
  | .sbcAD => h.alu .sbc (s.get8 .d) 4 (by decide)
  | .sbcAE => h.alu .sbc (s.get8 .e) 4 (by decide)
  | .sbcAH => h.alu .sbc (s.get8 .h) 4 (by decide)
  | .sbcAL => h.alu .sbc (s.get8 .l) 4 (by decide)
  | .sbcAMemHl => h.alu .sbc (s.read s.hl) 8 (by decide)
  | .sbcAA => h.alu .sbc (s.get8 .a) 4 (by decide)
  | .andB => h.alu .and (s.get8 .b) 4 (by decide)
  | .andC => h.alu .and (s.get8 .c) 4 (by decide)
  | .andD => h.alu .and (s.get8 .d) 4 (by decide)
  | .andE => h.alu .and (s.get8 .e) 4 (by decide)
  | .andH => h.alu .and (s.get8 .h) 4 (by decide)
  | .andL => h.alu .and (s.get8 .l) 4 (by decide)
  | .andMemHl => h.alu .and (s.read s.hl) 8 (by decide)
  | .andA => h.alu .and (s.get8 .a) 4 (by decide)
  | .xorB => h.alu .xor (s.get8 .b) 4 (by decide)
  | .xorC => h.alu .xor (s.get8 .c) 4 (by decide)
  | .xorD => h.alu .xor (s.get8 .d) 4 (by decide)
  | .xorE => h.alu .xor (s.get8 .e) 4 (by decide)
  | .xorH => h.alu .xor (s.get8 .h) 4 (by decide)
  | .xorL => h.alu .xor (s.get8 .l) 4 (by decide)
  | .xorMemHl => h.alu .xor (s.read s.hl) 8 (by decide)
  | .xorA => h.alu .xor (s.get8 .a) 4 (by decide)
  | .orB => h.alu .or (s.get8 .b) 4 (by decide)
  | .orC => h.alu .or (s.get8 .c) 4 (by decide)
  | .orD => h.alu .or (s.get8 .d) 4 (by decide)
  | .orE => h.alu .or (s.get8 .e) 4 (by decide)
  | .orH => h.alu .or (s.get8 .h) 4 (by decide)
  | .orL => h.alu .or (s.get8 .l) 4 (by decide)
  | .orMemHl => h.alu .or (s.read s.hl) 8 (by decide)
  | .orA => h.alu .or (s.get8 .a) 4 (by decide)
  | .cpB => h.alu .cp (s.get8 .b) 4 (by decide)
  | .cpC => h.alu .cp (s.get8 .c) 4 (by decide)
  | .cpD => h.alu .cp (s.get8 .d) 4 (by decide)
  | .cpE => h.alu .cp (s.get8 .e) 4 (by decide)
  | .cpH => h.alu .cp (s.get8 .h) 4 (by decide)
  | .cpL => h.alu .cp (s.get8 .l) 4 (by decide)
  | .cpMemHl => h.alu .cp (s.read s.hl) 8 (by decide)
  | .cpA => h.alu .cp (s.get8 .a) 4 (by decide)
  | .retNz => h.returnIf .nz 20 8 (by decide) (by decide)
  | .popBc => h.popPair .bc 12 (by decide) (by decide)
  | .jpNzNn nn => h.jumpIf .nz nn 16 12 (by decide) (by decide)
  | .jpNn nn => h.jumpTo nn 16 (by decide)
  | .callNzNn nn => h.callIf .nz nn 24 12 (by decide) (by decide)
  | .pushBc => h.pushPair .bc 16 (by decide)
  | .addAN n => h.alu .add n 8 (by decide)
  | .rst00 => h.callTo 0x00 16 (by decide)
  | .retZ => h.returnIf .z 20 8 (by decide) (by decide)
  | .ret => h.returnWith false 16 (by decide)
  | .jpZNn nn => h.jumpIf .z nn 16 12 (by decide) (by decide)
  | .callZNn nn => h.callIf .z nn 24 12 (by decide) (by decide)
  | .callNn nn => h.callTo nn 24 (by decide)
  | .adcAN n => h.alu .adc n 8 (by decide)
  | .rst08 => h.callTo 0x08 16 (by decide)
  | .retNc => h.returnIf .nc 20 8 (by decide) (by decide)
  | .popDe => h.popPair .de 12 (by decide) (by decide)
  | .jpNcNn nn => h.jumpIf .nc nn 16 12 (by decide) (by decide)
  | .illegalD3 => h.lock
  | .callNcNn nn => h.callIf .nc nn 24 12 (by decide) (by decide)
  | .pushDe => h.pushPair .de 16 (by decide)
  | .subN n => h.alu .sub n 8 (by decide)
  | .rst10 => h.callTo 0x10 16 (by decide)
  | .retC => h.returnIf .c 20 8 (by decide) (by decide)
  | .reti => h.returnWith true 16 (by decide)
  | .jpCNn nn => h.jumpIf .c nn 16 12 (by decide) (by decide)
  | .illegalDB => h.lock
  | .callCNn nn => h.callIf .c nn 24 12 (by decide) (by decide)
  | .illegalDD => h.lock
  | .sbcAN n => h.alu .sbc n 8 (by decide)
  | .rst18 => h.callTo 0x18 16 (by decide)
  | .ldhMemNA n => h.storeByte (highPage n) s.regs.a 12 (by decide)
  | .popHl => h.popPair .hl 12 (by decide) (by decide)
  | .ldhMemCA => h.storeByte (highPage s.regs.c) s.regs.a 8 (by decide)
  | .illegalE3 => h.lock
  | .illegalE4 => h.lock
  | .pushHl => h.pushPair .hl 16 (by decide)
  | .andN n => h.alu .and n 8 (by decide)
  | .rst20 => h.callTo 0x20 16 (by decide)
  | .addSpE e => h.spPlus .sp e 16 (by decide) (by decide)
  | .jpHl => h.jumpTo s.hl 4 (by decide)
  | .ldMemNnA nn => h.storeByte nn s.regs.a 16 (by decide)
  | .illegalEB => h.lock
  | .illegalEC => h.lock
  | .illegalED => h.lock
  | .xorN n => h.alu .xor n 8 (by decide)
  | .rst28 => h.callTo 0x28 16 (by decide)
  | .ldhAMemN n => h.loadReg .a (s.read (highPage n)) 12 (by decide)
  | .popAf => h.popAf 12 (by decide)
  | .ldhAMemC => h.loadReg .a (s.read (highPage s.regs.c)) 8 (by decide)
  | .di => h.di
  | .illegalF4 => h.lock
  | .pushAf => h.pushPair .af 16 (by decide)
  | .orN n => h.alu .or n 8 (by decide)
  | .rst30 => h.callTo 0x30 16 (by decide)
  | .ldHlSpE e => h.spPlus .hl e 12 (by decide) (by decide)
  | .ldSpHl => h.loadPair .sp s.hl 8 (by decide) (by decide)
  | .ldAMemNn nn => h.loadReg .a (s.read nn) 16 (by decide)
  | .ei => h.ei
  | .illegalFC => h.lock
  | .illegalFD => h.lock
  | .cpN n => h.alu .cp n 8 (by decide)
  | .rst38 => h.callTo 0x38 16 (by decide)
  | .rlcB => h.modifyReg (shiftByte .rlc) .b 8 (by decide)
  | .rlcC => h.modifyReg (shiftByte .rlc) .c 8 (by decide)
  | .rlcD => h.modifyReg (shiftByte .rlc) .d 8 (by decide)
  | .rlcE => h.modifyReg (shiftByte .rlc) .e 8 (by decide)
  | .rlcH => h.modifyReg (shiftByte .rlc) .h 8 (by decide)
  | .rlcL => h.modifyReg (shiftByte .rlc) .l 8 (by decide)
  | .rlcMemHl => h.modifyMem (shiftByte .rlc) 16 (by decide)
  | .rlcA => h.modifyReg (shiftByte .rlc) .a 8 (by decide)
  | .rrcB => h.modifyReg (shiftByte .rrc) .b 8 (by decide)
  | .rrcC => h.modifyReg (shiftByte .rrc) .c 8 (by decide)
  | .rrcD => h.modifyReg (shiftByte .rrc) .d 8 (by decide)
  | .rrcE => h.modifyReg (shiftByte .rrc) .e 8 (by decide)
  | .rrcH => h.modifyReg (shiftByte .rrc) .h 8 (by decide)
  | .rrcL => h.modifyReg (shiftByte .rrc) .l 8 (by decide)
  | .rrcMemHl => h.modifyMem (shiftByte .rrc) 16 (by decide)
  | .rrcA => h.modifyReg (shiftByte .rrc) .a 8 (by decide)
  | .rlB => h.modifyReg (shiftByte .rl) .b 8 (by decide)
  | .rlC => h.modifyReg (shiftByte .rl) .c 8 (by decide)
  | .rlD => h.modifyReg (shiftByte .rl) .d 8 (by decide)
  | .rlE => h.modifyReg (shiftByte .rl) .e 8 (by decide)
  | .rlH => h.modifyReg (shiftByte .rl) .h 8 (by decide)
  | .rlL => h.modifyReg (shiftByte .rl) .l 8 (by decide)
  | .rlMemHl => h.modifyMem (shiftByte .rl) 16 (by decide)
  | .rlA => h.modifyReg (shiftByte .rl) .a 8 (by decide)
  | .rrB => h.modifyReg (shiftByte .rr) .b 8 (by decide)
  | .rrC => h.modifyReg (shiftByte .rr) .c 8 (by decide)
  | .rrD => h.modifyReg (shiftByte .rr) .d 8 (by decide)
  | .rrE => h.modifyReg (shiftByte .rr) .e 8 (by decide)
  | .rrH => h.modifyReg (shiftByte .rr) .h 8 (by decide)
  | .rrL => h.modifyReg (shiftByte .rr) .l 8 (by decide)
  | .rrMemHl => h.modifyMem (shiftByte .rr) 16 (by decide)
  | .rrA => h.modifyReg (shiftByte .rr) .a 8 (by decide)
  | .slaB => h.modifyReg (shiftByte .sla) .b 8 (by decide)
  | .slaC => h.modifyReg (shiftByte .sla) .c 8 (by decide)
  | .slaD => h.modifyReg (shiftByte .sla) .d 8 (by decide)
  | .slaE => h.modifyReg (shiftByte .sla) .e 8 (by decide)
  | .slaH => h.modifyReg (shiftByte .sla) .h 8 (by decide)
  | .slaL => h.modifyReg (shiftByte .sla) .l 8 (by decide)
  | .slaMemHl => h.modifyMem (shiftByte .sla) 16 (by decide)
  | .slaA => h.modifyReg (shiftByte .sla) .a 8 (by decide)
  | .sraB => h.modifyReg (shiftByte .sra) .b 8 (by decide)
  | .sraC => h.modifyReg (shiftByte .sra) .c 8 (by decide)
  | .sraD => h.modifyReg (shiftByte .sra) .d 8 (by decide)
  | .sraE => h.modifyReg (shiftByte .sra) .e 8 (by decide)
  | .sraH => h.modifyReg (shiftByte .sra) .h 8 (by decide)
  | .sraL => h.modifyReg (shiftByte .sra) .l 8 (by decide)
  | .sraMemHl => h.modifyMem (shiftByte .sra) 16 (by decide)
  | .sraA => h.modifyReg (shiftByte .sra) .a 8 (by decide)
  | .swapB => h.modifyReg (shiftByte .swap) .b 8 (by decide)
  | .swapC => h.modifyReg (shiftByte .swap) .c 8 (by decide)
  | .swapD => h.modifyReg (shiftByte .swap) .d 8 (by decide)
  | .swapE => h.modifyReg (shiftByte .swap) .e 8 (by decide)
  | .swapH => h.modifyReg (shiftByte .swap) .h 8 (by decide)
  | .swapL => h.modifyReg (shiftByte .swap) .l 8 (by decide)
  | .swapMemHl => h.modifyMem (shiftByte .swap) 16 (by decide)
  | .swapA => h.modifyReg (shiftByte .swap) .a 8 (by decide)
  | .srlB => h.modifyReg (shiftByte .srl) .b 8 (by decide)
  | .srlC => h.modifyReg (shiftByte .srl) .c 8 (by decide)
  | .srlD => h.modifyReg (shiftByte .srl) .d 8 (by decide)
  | .srlE => h.modifyReg (shiftByte .srl) .e 8 (by decide)
  | .srlH => h.modifyReg (shiftByte .srl) .h 8 (by decide)
  | .srlL => h.modifyReg (shiftByte .srl) .l 8 (by decide)
  | .srlMemHl => h.modifyMem (shiftByte .srl) 16 (by decide)
  | .srlA => h.modifyReg (shiftByte .srl) .a 8 (by decide)
  | .bit0B => h.writeFlags (bitFlags 0 (s.get8 .b) s.flags) 8 (by decide)
  | .bit0C => h.writeFlags (bitFlags 0 (s.get8 .c) s.flags) 8 (by decide)
  | .bit0D => h.writeFlags (bitFlags 0 (s.get8 .d) s.flags) 8 (by decide)
  | .bit0E => h.writeFlags (bitFlags 0 (s.get8 .e) s.flags) 8 (by decide)
  | .bit0H => h.writeFlags (bitFlags 0 (s.get8 .h) s.flags) 8 (by decide)
  | .bit0L => h.writeFlags (bitFlags 0 (s.get8 .l) s.flags) 8 (by decide)
  | .bit0MemHl => h.writeFlags (bitFlags 0 (s.read s.hl) s.flags) 12 (by decide)
  | .bit0A => h.writeFlags (bitFlags 0 (s.get8 .a) s.flags) 8 (by decide)
  | .bit1B => h.writeFlags (bitFlags 1 (s.get8 .b) s.flags) 8 (by decide)
  | .bit1C => h.writeFlags (bitFlags 1 (s.get8 .c) s.flags) 8 (by decide)
  | .bit1D => h.writeFlags (bitFlags 1 (s.get8 .d) s.flags) 8 (by decide)
  | .bit1E => h.writeFlags (bitFlags 1 (s.get8 .e) s.flags) 8 (by decide)
  | .bit1H => h.writeFlags (bitFlags 1 (s.get8 .h) s.flags) 8 (by decide)
  | .bit1L => h.writeFlags (bitFlags 1 (s.get8 .l) s.flags) 8 (by decide)
  | .bit1MemHl => h.writeFlags (bitFlags 1 (s.read s.hl) s.flags) 12 (by decide)
  | .bit1A => h.writeFlags (bitFlags 1 (s.get8 .a) s.flags) 8 (by decide)
  | .bit2B => h.writeFlags (bitFlags 2 (s.get8 .b) s.flags) 8 (by decide)
  | .bit2C => h.writeFlags (bitFlags 2 (s.get8 .c) s.flags) 8 (by decide)
  | .bit2D => h.writeFlags (bitFlags 2 (s.get8 .d) s.flags) 8 (by decide)
  | .bit2E => h.writeFlags (bitFlags 2 (s.get8 .e) s.flags) 8 (by decide)
  | .bit2H => h.writeFlags (bitFlags 2 (s.get8 .h) s.flags) 8 (by decide)
  | .bit2L => h.writeFlags (bitFlags 2 (s.get8 .l) s.flags) 8 (by decide)
  | .bit2MemHl => h.writeFlags (bitFlags 2 (s.read s.hl) s.flags) 12 (by decide)
  | .bit2A => h.writeFlags (bitFlags 2 (s.get8 .a) s.flags) 8 (by decide)
  | .bit3B => h.writeFlags (bitFlags 3 (s.get8 .b) s.flags) 8 (by decide)
  | .bit3C => h.writeFlags (bitFlags 3 (s.get8 .c) s.flags) 8 (by decide)
  | .bit3D => h.writeFlags (bitFlags 3 (s.get8 .d) s.flags) 8 (by decide)
  | .bit3E => h.writeFlags (bitFlags 3 (s.get8 .e) s.flags) 8 (by decide)
  | .bit3H => h.writeFlags (bitFlags 3 (s.get8 .h) s.flags) 8 (by decide)
  | .bit3L => h.writeFlags (bitFlags 3 (s.get8 .l) s.flags) 8 (by decide)
  | .bit3MemHl => h.writeFlags (bitFlags 3 (s.read s.hl) s.flags) 12 (by decide)
  | .bit3A => h.writeFlags (bitFlags 3 (s.get8 .a) s.flags) 8 (by decide)
  | .bit4B => h.writeFlags (bitFlags 4 (s.get8 .b) s.flags) 8 (by decide)
  | .bit4C => h.writeFlags (bitFlags 4 (s.get8 .c) s.flags) 8 (by decide)
  | .bit4D => h.writeFlags (bitFlags 4 (s.get8 .d) s.flags) 8 (by decide)
  | .bit4E => h.writeFlags (bitFlags 4 (s.get8 .e) s.flags) 8 (by decide)
  | .bit4H => h.writeFlags (bitFlags 4 (s.get8 .h) s.flags) 8 (by decide)
  | .bit4L => h.writeFlags (bitFlags 4 (s.get8 .l) s.flags) 8 (by decide)
  | .bit4MemHl => h.writeFlags (bitFlags 4 (s.read s.hl) s.flags) 12 (by decide)
  | .bit4A => h.writeFlags (bitFlags 4 (s.get8 .a) s.flags) 8 (by decide)
  | .bit5B => h.writeFlags (bitFlags 5 (s.get8 .b) s.flags) 8 (by decide)
  | .bit5C => h.writeFlags (bitFlags 5 (s.get8 .c) s.flags) 8 (by decide)
  | .bit5D => h.writeFlags (bitFlags 5 (s.get8 .d) s.flags) 8 (by decide)
  | .bit5E => h.writeFlags (bitFlags 5 (s.get8 .e) s.flags) 8 (by decide)
  | .bit5H => h.writeFlags (bitFlags 5 (s.get8 .h) s.flags) 8 (by decide)
  | .bit5L => h.writeFlags (bitFlags 5 (s.get8 .l) s.flags) 8 (by decide)
  | .bit5MemHl => h.writeFlags (bitFlags 5 (s.read s.hl) s.flags) 12 (by decide)
  | .bit5A => h.writeFlags (bitFlags 5 (s.get8 .a) s.flags) 8 (by decide)
  | .bit6B => h.writeFlags (bitFlags 6 (s.get8 .b) s.flags) 8 (by decide)
  | .bit6C => h.writeFlags (bitFlags 6 (s.get8 .c) s.flags) 8 (by decide)
  | .bit6D => h.writeFlags (bitFlags 6 (s.get8 .d) s.flags) 8 (by decide)
  | .bit6E => h.writeFlags (bitFlags 6 (s.get8 .e) s.flags) 8 (by decide)
  | .bit6H => h.writeFlags (bitFlags 6 (s.get8 .h) s.flags) 8 (by decide)
  | .bit6L => h.writeFlags (bitFlags 6 (s.get8 .l) s.flags) 8 (by decide)
  | .bit6MemHl => h.writeFlags (bitFlags 6 (s.read s.hl) s.flags) 12 (by decide)
  | .bit6A => h.writeFlags (bitFlags 6 (s.get8 .a) s.flags) 8 (by decide)
  | .bit7B => h.writeFlags (bitFlags 7 (s.get8 .b) s.flags) 8 (by decide)
  | .bit7C => h.writeFlags (bitFlags 7 (s.get8 .c) s.flags) 8 (by decide)
  | .bit7D => h.writeFlags (bitFlags 7 (s.get8 .d) s.flags) 8 (by decide)
  | .bit7E => h.writeFlags (bitFlags 7 (s.get8 .e) s.flags) 8 (by decide)
  | .bit7H => h.writeFlags (bitFlags 7 (s.get8 .h) s.flags) 8 (by decide)
  | .bit7L => h.writeFlags (bitFlags 7 (s.get8 .l) s.flags) 8 (by decide)
  | .bit7MemHl => h.writeFlags (bitFlags 7 (s.read s.hl) s.flags) 12 (by decide)
  | .bit7A => h.writeFlags (bitFlags 7 (s.get8 .a) s.flags) 8 (by decide)
  | .res0B => h.loadReg .b (resByte 0 (s.get8 .b)) 8 (by decide)
  | .res0C => h.loadReg .c (resByte 0 (s.get8 .c)) 8 (by decide)
  | .res0D => h.loadReg .d (resByte 0 (s.get8 .d)) 8 (by decide)
  | .res0E => h.loadReg .e (resByte 0 (s.get8 .e)) 8 (by decide)
  | .res0H => h.loadReg .h (resByte 0 (s.get8 .h)) 8 (by decide)
  | .res0L => h.loadReg .l (resByte 0 (s.get8 .l)) 8 (by decide)
  | .res0MemHl => h.storeByte s.hl (resByte 0 (s.read s.hl)) 16 (by decide)
  | .res0A => h.loadReg .a (resByte 0 (s.get8 .a)) 8 (by decide)
  | .res1B => h.loadReg .b (resByte 1 (s.get8 .b)) 8 (by decide)
  | .res1C => h.loadReg .c (resByte 1 (s.get8 .c)) 8 (by decide)
  | .res1D => h.loadReg .d (resByte 1 (s.get8 .d)) 8 (by decide)
  | .res1E => h.loadReg .e (resByte 1 (s.get8 .e)) 8 (by decide)
  | .res1H => h.loadReg .h (resByte 1 (s.get8 .h)) 8 (by decide)
  | .res1L => h.loadReg .l (resByte 1 (s.get8 .l)) 8 (by decide)
  | .res1MemHl => h.storeByte s.hl (resByte 1 (s.read s.hl)) 16 (by decide)
  | .res1A => h.loadReg .a (resByte 1 (s.get8 .a)) 8 (by decide)
  | .res2B => h.loadReg .b (resByte 2 (s.get8 .b)) 8 (by decide)
  | .res2C => h.loadReg .c (resByte 2 (s.get8 .c)) 8 (by decide)
  | .res2D => h.loadReg .d (resByte 2 (s.get8 .d)) 8 (by decide)
  | .res2E => h.loadReg .e (resByte 2 (s.get8 .e)) 8 (by decide)
  | .res2H => h.loadReg .h (resByte 2 (s.get8 .h)) 8 (by decide)
  | .res2L => h.loadReg .l (resByte 2 (s.get8 .l)) 8 (by decide)
  | .res2MemHl => h.storeByte s.hl (resByte 2 (s.read s.hl)) 16 (by decide)
  | .res2A => h.loadReg .a (resByte 2 (s.get8 .a)) 8 (by decide)
  | .res3B => h.loadReg .b (resByte 3 (s.get8 .b)) 8 (by decide)
  | .res3C => h.loadReg .c (resByte 3 (s.get8 .c)) 8 (by decide)
  | .res3D => h.loadReg .d (resByte 3 (s.get8 .d)) 8 (by decide)
  | .res3E => h.loadReg .e (resByte 3 (s.get8 .e)) 8 (by decide)
  | .res3H => h.loadReg .h (resByte 3 (s.get8 .h)) 8 (by decide)
  | .res3L => h.loadReg .l (resByte 3 (s.get8 .l)) 8 (by decide)
  | .res3MemHl => h.storeByte s.hl (resByte 3 (s.read s.hl)) 16 (by decide)
  | .res3A => h.loadReg .a (resByte 3 (s.get8 .a)) 8 (by decide)
  | .res4B => h.loadReg .b (resByte 4 (s.get8 .b)) 8 (by decide)
  | .res4C => h.loadReg .c (resByte 4 (s.get8 .c)) 8 (by decide)
  | .res4D => h.loadReg .d (resByte 4 (s.get8 .d)) 8 (by decide)
  | .res4E => h.loadReg .e (resByte 4 (s.get8 .e)) 8 (by decide)
  | .res4H => h.loadReg .h (resByte 4 (s.get8 .h)) 8 (by decide)
  | .res4L => h.loadReg .l (resByte 4 (s.get8 .l)) 8 (by decide)
  | .res4MemHl => h.storeByte s.hl (resByte 4 (s.read s.hl)) 16 (by decide)
  | .res4A => h.loadReg .a (resByte 4 (s.get8 .a)) 8 (by decide)
  | .res5B => h.loadReg .b (resByte 5 (s.get8 .b)) 8 (by decide)
  | .res5C => h.loadReg .c (resByte 5 (s.get8 .c)) 8 (by decide)
  | .res5D => h.loadReg .d (resByte 5 (s.get8 .d)) 8 (by decide)
  | .res5E => h.loadReg .e (resByte 5 (s.get8 .e)) 8 (by decide)
  | .res5H => h.loadReg .h (resByte 5 (s.get8 .h)) 8 (by decide)
  | .res5L => h.loadReg .l (resByte 5 (s.get8 .l)) 8 (by decide)
  | .res5MemHl => h.storeByte s.hl (resByte 5 (s.read s.hl)) 16 (by decide)
  | .res5A => h.loadReg .a (resByte 5 (s.get8 .a)) 8 (by decide)
  | .res6B => h.loadReg .b (resByte 6 (s.get8 .b)) 8 (by decide)
  | .res6C => h.loadReg .c (resByte 6 (s.get8 .c)) 8 (by decide)
  | .res6D => h.loadReg .d (resByte 6 (s.get8 .d)) 8 (by decide)
  | .res6E => h.loadReg .e (resByte 6 (s.get8 .e)) 8 (by decide)
  | .res6H => h.loadReg .h (resByte 6 (s.get8 .h)) 8 (by decide)
  | .res6L => h.loadReg .l (resByte 6 (s.get8 .l)) 8 (by decide)
  | .res6MemHl => h.storeByte s.hl (resByte 6 (s.read s.hl)) 16 (by decide)
  | .res6A => h.loadReg .a (resByte 6 (s.get8 .a)) 8 (by decide)
  | .res7B => h.loadReg .b (resByte 7 (s.get8 .b)) 8 (by decide)
  | .res7C => h.loadReg .c (resByte 7 (s.get8 .c)) 8 (by decide)
  | .res7D => h.loadReg .d (resByte 7 (s.get8 .d)) 8 (by decide)
  | .res7E => h.loadReg .e (resByte 7 (s.get8 .e)) 8 (by decide)
  | .res7H => h.loadReg .h (resByte 7 (s.get8 .h)) 8 (by decide)
  | .res7L => h.loadReg .l (resByte 7 (s.get8 .l)) 8 (by decide)
  | .res7MemHl => h.storeByte s.hl (resByte 7 (s.read s.hl)) 16 (by decide)
  | .res7A => h.loadReg .a (resByte 7 (s.get8 .a)) 8 (by decide)
  | .set0B => h.loadReg .b (setByte 0 (s.get8 .b)) 8 (by decide)
  | .set0C => h.loadReg .c (setByte 0 (s.get8 .c)) 8 (by decide)
  | .set0D => h.loadReg .d (setByte 0 (s.get8 .d)) 8 (by decide)
  | .set0E => h.loadReg .e (setByte 0 (s.get8 .e)) 8 (by decide)
  | .set0H => h.loadReg .h (setByte 0 (s.get8 .h)) 8 (by decide)
  | .set0L => h.loadReg .l (setByte 0 (s.get8 .l)) 8 (by decide)
  | .set0MemHl => h.storeByte s.hl (setByte 0 (s.read s.hl)) 16 (by decide)
  | .set0A => h.loadReg .a (setByte 0 (s.get8 .a)) 8 (by decide)
  | .set1B => h.loadReg .b (setByte 1 (s.get8 .b)) 8 (by decide)
  | .set1C => h.loadReg .c (setByte 1 (s.get8 .c)) 8 (by decide)
  | .set1D => h.loadReg .d (setByte 1 (s.get8 .d)) 8 (by decide)
  | .set1E => h.loadReg .e (setByte 1 (s.get8 .e)) 8 (by decide)
  | .set1H => h.loadReg .h (setByte 1 (s.get8 .h)) 8 (by decide)
  | .set1L => h.loadReg .l (setByte 1 (s.get8 .l)) 8 (by decide)
  | .set1MemHl => h.storeByte s.hl (setByte 1 (s.read s.hl)) 16 (by decide)
  | .set1A => h.loadReg .a (setByte 1 (s.get8 .a)) 8 (by decide)
  | .set2B => h.loadReg .b (setByte 2 (s.get8 .b)) 8 (by decide)
  | .set2C => h.loadReg .c (setByte 2 (s.get8 .c)) 8 (by decide)
  | .set2D => h.loadReg .d (setByte 2 (s.get8 .d)) 8 (by decide)
  | .set2E => h.loadReg .e (setByte 2 (s.get8 .e)) 8 (by decide)
  | .set2H => h.loadReg .h (setByte 2 (s.get8 .h)) 8 (by decide)
  | .set2L => h.loadReg .l (setByte 2 (s.get8 .l)) 8 (by decide)
  | .set2MemHl => h.storeByte s.hl (setByte 2 (s.read s.hl)) 16 (by decide)
  | .set2A => h.loadReg .a (setByte 2 (s.get8 .a)) 8 (by decide)
  | .set3B => h.loadReg .b (setByte 3 (s.get8 .b)) 8 (by decide)
  | .set3C => h.loadReg .c (setByte 3 (s.get8 .c)) 8 (by decide)
  | .set3D => h.loadReg .d (setByte 3 (s.get8 .d)) 8 (by decide)
  | .set3E => h.loadReg .e (setByte 3 (s.get8 .e)) 8 (by decide)
  | .set3H => h.loadReg .h (setByte 3 (s.get8 .h)) 8 (by decide)
  | .set3L => h.loadReg .l (setByte 3 (s.get8 .l)) 8 (by decide)
  | .set3MemHl => h.storeByte s.hl (setByte 3 (s.read s.hl)) 16 (by decide)
  | .set3A => h.loadReg .a (setByte 3 (s.get8 .a)) 8 (by decide)
  | .set4B => h.loadReg .b (setByte 4 (s.get8 .b)) 8 (by decide)
  | .set4C => h.loadReg .c (setByte 4 (s.get8 .c)) 8 (by decide)
  | .set4D => h.loadReg .d (setByte 4 (s.get8 .d)) 8 (by decide)
  | .set4E => h.loadReg .e (setByte 4 (s.get8 .e)) 8 (by decide)
  | .set4H => h.loadReg .h (setByte 4 (s.get8 .h)) 8 (by decide)
  | .set4L => h.loadReg .l (setByte 4 (s.get8 .l)) 8 (by decide)
  | .set4MemHl => h.storeByte s.hl (setByte 4 (s.read s.hl)) 16 (by decide)
  | .set4A => h.loadReg .a (setByte 4 (s.get8 .a)) 8 (by decide)
  | .set5B => h.loadReg .b (setByte 5 (s.get8 .b)) 8 (by decide)
  | .set5C => h.loadReg .c (setByte 5 (s.get8 .c)) 8 (by decide)
  | .set5D => h.loadReg .d (setByte 5 (s.get8 .d)) 8 (by decide)
  | .set5E => h.loadReg .e (setByte 5 (s.get8 .e)) 8 (by decide)
  | .set5H => h.loadReg .h (setByte 5 (s.get8 .h)) 8 (by decide)
  | .set5L => h.loadReg .l (setByte 5 (s.get8 .l)) 8 (by decide)
  | .set5MemHl => h.storeByte s.hl (setByte 5 (s.read s.hl)) 16 (by decide)
  | .set5A => h.loadReg .a (setByte 5 (s.get8 .a)) 8 (by decide)
  | .set6B => h.loadReg .b (setByte 6 (s.get8 .b)) 8 (by decide)
  | .set6C => h.loadReg .c (setByte 6 (s.get8 .c)) 8 (by decide)
  | .set6D => h.loadReg .d (setByte 6 (s.get8 .d)) 8 (by decide)
  | .set6E => h.loadReg .e (setByte 6 (s.get8 .e)) 8 (by decide)
  | .set6H => h.loadReg .h (setByte 6 (s.get8 .h)) 8 (by decide)
  | .set6L => h.loadReg .l (setByte 6 (s.get8 .l)) 8 (by decide)
  | .set6MemHl => h.storeByte s.hl (setByte 6 (s.read s.hl)) 16 (by decide)
  | .set6A => h.loadReg .a (setByte 6 (s.get8 .a)) 8 (by decide)
  | .set7B => h.loadReg .b (setByte 7 (s.get8 .b)) 8 (by decide)
  | .set7C => h.loadReg .c (setByte 7 (s.get8 .c)) 8 (by decide)
  | .set7D => h.loadReg .d (setByte 7 (s.get8 .d)) 8 (by decide)
  | .set7E => h.loadReg .e (setByte 7 (s.get8 .e)) 8 (by decide)
  | .set7H => h.loadReg .h (setByte 7 (s.get8 .h)) 8 (by decide)
  | .set7L => h.loadReg .l (setByte 7 (s.get8 .l)) 8 (by decide)
  | .set7MemHl => h.storeByte s.hl (setByte 7 (s.read s.hl)) 16 (by decide)
  | .set7A => h.loadReg .a (setByte 7 (s.get8 .a)) 8 (by decide)

/-- A predicate on states that every operation of an instruction, of a dispatch and of the end of a step keeps. -/
structure Closed (P : State → Prop) : Prop where
  set8 : ∀ s r v, P s → P (s.set8 r v)
  set16 : ∀ s rr v, rr ≠ .af → P s → P (s.set16 rr v)
  setAf : ∀ s v, P s → P (s.set16 .af (v &&& 0xFFF0))
  setFlags : ∀ s f, P s → P (s.setFlags f)
  setPc : ∀ s v, P s → P (s.setPc v)
  tick : ∀ s c, c ∈ 1 :: costs → P s → P (s.tick c)
  write : ∀ s a v, P s → P (s.write a v)
  setIme : ∀ s b, P s → P (s.setIme b s.imeDelay)
  armIme : ∀ s, P s → P (s.setIme s.ime 2)
  clearIme : ∀ s, P s → P (s.setIme false 0)
  setHalt : ∀ s h b, P s → P (s.setHalt h b)
  lock : ∀ s, P s → P s.lock
  refuse : ∀ s r, P s → P (s.refuse r)
  acknowledge : ∀ s k, P s → P (s.acknowledge k)
  countdown : ∀ s, P s → P s.countdown
  catchUp : ∀ s, P s → P s.catchUp

theorem State.andThen_closed {P : State → Prop} {s : State} {k : State → State} (hs : P s) (hk : s.faulted = none → P (k s)) :
    P (s.andThen k) := by
  unfold State.andThen
  cases h : s.faulted with
  | none => exact hk h
  | some r => exact hs

theorem Closed.setSp {P : State → Prop} (h : Closed P) (s : State) (v : Word) (hs : P s) : P (s.setSp v) :=
  h.set16 s .sp v (by decide) hs

theorem Closed.push16 {P : State → Prop} (h : Closed P) (s : State) (v : Word) (hs : P s) : P (s.push16 v) :=
  State.andThen_closed (h.write _ _ _ (h.setSp _ _ hs)) fun _ =>
    h.write _ _ _ (h.setSp _ _ (h.write _ _ _ (h.setSp _ _ hs)))

theorem mem_costs_cons {c : Nat} (h : c ∈ costs) : c ∈ 1 :: costs := List.mem_cons_of_mem _ h

/-- `ans` answers a next state, and `P` holds of it. -/
def Next (P : State → Prop) (ans : Answer) : Prop :=
  ∃ t, ans = .next t ∧ P t

/-- Every instruction answers a next state (the faults and the refusal of STOP are marks of it), and keeps what is closed. -/
theorem exec_closed {P : State → Prop} (h : Closed P) {s : State} (hs : P s) (i : Instr) : Next P (exec i s) := by
  refine exec_cases (P := Next P) ?_ i
  have call : ∀ t c, c ∈ costs → Next P (callTo t c s) := fun t c hc =>
    ⟨_, rfl, State.andThen_closed (h.push16 _ _ hs) fun _ => h.tick _ _ (mem_costs_cons hc) (h.setPc _ _ (h.push16 _ _ hs))⟩
  have ret : ∀ b c, c ∈ costs → Next P (returnWith b c s) := fun b c hc =>
    ⟨_, rfl, h.tick _ _ (mem_costs_cons hc) (h.setIme _ _ (h.setPc _ _ (h.setSp _ _ hs)))⟩
  have stay : ∀ c, c ∈ costs → Next P (.next (s.tick c)) := fun c hc => ⟨_, rfl, h.tick _ _ (mem_costs_cons hc) hs⟩
  constructor
  case loadReg => exact fun r v c hc => ⟨_, rfl, h.tick _ _ (mem_costs_cons hc) (h.set8 _ _ _ hs)⟩
  case loadPair => exact fun rr v c hr hc => ⟨_, rfl, h.tick _ _ (mem_costs_cons hc) (h.set16 _ _ _ hr hs)⟩
  case storeByte =>
    exact fun a v c hc => ⟨_, rfl, State.andThen_closed (h.write _ _ _ hs) fun _ =>
      h.tick _ _ (mem_costs_cons hc) (h.write _ _ _ hs)⟩
  case loadAStep =>
    exact fun d c hc => ⟨_, rfl, h.tick _ _ (mem_costs_cons hc) (h.set16 _ _ _ (by decide) (h.set8 _ _ _ hs))⟩
  case storeAStep =>
    exact fun d c hc => ⟨_, rfl, State.andThen_closed (h.write _ _ _ hs) fun _ =>
      h.tick _ _ (mem_costs_cons hc) (h.set16 _ _ _ (by decide) (h.write _ _ _ hs))⟩
  case storeSp =>
    exact fun nn c hc => ⟨_, rfl, State.andThen_closed
      (State.andThen_closed (h.write _ _ _ hs) fun _ => h.write _ _ _ (h.write _ _ _ hs)) fun _ =>
      h.tick _ _ (mem_costs_cons hc) (State.andThen_closed (h.write _ _ _ hs) fun _ => h.write _ _ _ (h.write _ _ _ hs))⟩
  case pushPair =>
    exact fun rr c hc => ⟨_, rfl, State.andThen_closed (h.push16 _ _ hs) fun _ =>
      h.tick _ _ (mem_costs_cons hc) (h.push16 _ _ hs)⟩
  case popPair => exact fun rr c hr hc => ⟨_, rfl, h.tick _ _ (mem_costs_cons hc) (h.set16 _ _ _ hr (h.setSp _ _ hs))⟩
  case popAf => exact fun c hc => ⟨_, rfl, h.tick _ _ (mem_costs_cons hc) (h.setAf _ _ (h.setSp _ _ hs))⟩
  case spPlus =>
    exact fun rr e c hr hc => ⟨_, rfl, h.tick _ _ (mem_costs_cons hc) (h.setFlags _ _ (h.set16 _ _ _ hr hs))⟩
  case alu => exact fun op v c hc => ⟨_, rfl, h.tick _ _ (mem_costs_cons hc) (h.setFlags _ _ (h.set8 _ _ _ hs))⟩
  case modifyReg => exact fun g r c hc => ⟨_, rfl, h.tick _ _ (mem_costs_cons hc) (h.setFlags _ _ (h.set8 _ _ _ hs))⟩
  case modifyMem =>
    exact fun g c hc => ⟨_, rfl, State.andThen_closed (h.write _ _ _ hs) fun _ =>
      h.tick _ _ (mem_costs_cons hc) (h.setFlags _ _ (h.write _ _ _ hs))⟩
  case writeFlags => exact fun f c hc => ⟨_, rfl, h.tick _ _ (mem_costs_cons hc) (h.setFlags _ _ hs)⟩
  case addHl =>
    exact fun rr c hc => ⟨_, rfl, h.tick _ _ (mem_costs_cons hc) (h.setFlags _ _ (h.set16 _ _ _ (by decide) hs))⟩
  case jumpTo => exact fun t c hc => ⟨_, rfl, h.tick _ _ (mem_costs_cons hc) (h.setPc _ _ hs)⟩
  case jumpIf =>
    intro cc t c d hc hd
    unfold Sys2Proof.Machine.jumpIf
    split
    · exact ⟨_, rfl, h.tick _ _ (mem_costs_cons hc) (h.setPc _ _ hs)⟩
    · exact stay d hd
  case callTo => exact call
  case callIf =>
    intro cc t c d hc hd
    unfold Sys2Proof.Machine.callIf
    split
    · exact call t c hc
    · exact stay d hd
  case returnWith => exact ret
  case returnIf =>
    intro cc c d hc hd
    unfold Sys2Proof.Machine.returnIf
    split
    · exact ret false c hc
    · exact stay d hd
  case nop => exact stay 4 (by decide)
  case halt =>
    refine ⟨_, rfl, h.tick _ _ (by decide) ?_⟩
    unfold State.halt
    split
    · exact h.setHalt _ _ _ hs
    · exact h.setHalt _ _ _ hs
  case lock => exact ⟨_, rfl, h.tick _ _ (by decide) (h.lock _ hs)⟩
  case di => exact ⟨_, rfl, h.tick _ _ (by decide) (h.clearIme _ hs)⟩
  case ei => exact ⟨_, rfl, h.tick _ _ (by decide) (h.armIme _ hs)⟩
  case stop => exact ⟨_, rfl, h.refuse _ _ hs⟩

/-- Every instruction answers a next state. -/
theorem exec_next (i : Instr) (s : State) : ∃ t, exec i s = .next t := by
  obtain ⟨t, ht, -⟩ := exec_closed (P := fun _ => True) (by constructor <;> intros <;> trivial) (s := s) trivial i
  exact ⟨t, ht⟩

theorem Closed.dispatch {P : State → Prop} (h : Closed P) (s : State) (hs : P s) : P s.dispatch :=
  State.andThen_closed (h.push16 _ _ (h.acknowledge _ _ hs)) fun _ =>
    h.tick _ _ (by decide) (h.setPc _ _ (h.push16 _ _ (h.acknowledge _ _ hs)))

theorem Closed.endInstr {P : State → Prop} (h : Closed P) (s : State) (a : Word) (hs : P s) : P (s.endInstr a) := by
  unfold State.endInstr
  split
  · unfold State.recordStop
    split
    · exact h.refuse _ _ hs
    · exact hs
  · exact h.catchUp _ (h.countdown _ hs)

/-- What a step from an unmarked state can be: a waiting step, a dispatch, or a fetched instruction. -/
theorem step_cases {s t : State} (h : step s = .next t) :
    s.faulted = none ∧ s.refused = none ∧
      ((s.waits = true ∧ t = (s.tick s.waitCost).catchUp) ∨
        (s.waits = false ∧ s.dispatches = true ∧ t = s.wake.dispatch.endStep) ∨
        (s.waits = false ∧ s.dispatches = false ∧
          ∃ u, exec s.wake.fetchInstr (s.wake.fetched s.wake.fetchInstr) = .next u ∧ t = u.endInstr s.regs.pc)) := by
  unfold step at h
  split at h
  · cases h
  · cases h
  · rename_i hf hr
    refine ⟨hf, hr, ?_⟩
    split at h
    · rename_i hw
      cases h; exact .inl ⟨hw, rfl⟩
    · rename_i hw
      have hw' : s.waits = false := by simpa using hw
      unfold stepAwake at h
      split at h
      · rename_i hd
        cases h; exact .inr (.inl ⟨hw', hd, rfl⟩)
      · rename_i hd
        have hd' : s.dispatches = false := by
          have : s.wake.dispatches = s.dispatches := rfl
          simpa [this] using hd
        obtain ⟨u, hu⟩ := exec_next s.wake.fetchInstr (s.wake.fetched s.wake.fetchInstr)
        rw [hu] at h
        cases h
        exact .inr (.inr ⟨hw', hd', u, hu, rfl⟩)

/-- What is closed, every step keeps. -/
theorem step_closed {P : State → Prop} (h : Closed P) {s t : State} (hs : P s) (hst : step s = .next t) : P t := by
  have hw : P s.wake := h.setHalt s false s.haltBug hs
  obtain ⟨-, -, ⟨-, rfl⟩ | ⟨-, -, rfl⟩ | ⟨-, -, u, hu, rfl⟩⟩ := step_cases hst
  · refine h.catchUp _ (h.tick _ _ ?_ hs)
    unfold State.waitCost
    split <;> decide
  · unfold State.endStep
    split
    · exact h.dispatch _ hw
    · exact h.catchUp _ (h.dispatch _ hw)
  · refine h.endInstr _ _ ?_
    have hf : P (s.wake.fetched s.wake.fetchInstr) :=
      h.setHalt (s.wake.setPc (s.wake.operandPc + BitVec.ofNat 16 (fetchedOperands s.wake.fetchInstr))) s.wake.halted false
        (h.setPc _ _ hw)
    obtain ⟨v, hv, hp⟩ := exec_closed h hf s.wake.fetchInstr
    rw [hu] at hv
    cases hv
    exact hp

end Sys2Proof.Machine
end

