-- ==== Sys2Proof/Laws/PerInstr.lean ====
section
/-! SUPPORT. One lemma per constructor of `Instr`, for statements made per instruction. `Encoded.Statement` is about the instruction
as syntax: it is well-formed, its encoding starts with its first byte and has the length that byte fixes
(spec/30_encoding.md R151), and a CB-prefixed instruction has exactly one byte after its prefix (R162). -/

namespace Sys2Proof.Laws.Encoded

open Sys2Proof

/-- What the family says of `i`. -/
def Statement (i : Instr) : Prop :=
  i.wf = true ∧ (encode i).head? = some i.firstByte ∧ (encode i).length = i.length ∧
    i.length = opcodeLength i.firstByte ∧ (i.firstByte = 0xCB → i.length = 2)

/-- Its parts, when the first byte and the length are known. -/
theorem intro {i : Instr} (b : Byte) (k : Nat) (hb : i.firstByte = b) (hk : opcodeLength b = k)
    (he : (encode i).head? = some b) (hl : (encode i).length = k)
    (hd : (decide (1 ≤ k ∧ k ≤ 3) && (b != 0xCB || k == 2)) = true) : Statement i := by
  have hi : i.length = k := by rw [← hk, ← hb]; rfl
  simp only [Bool.and_eq_true, decide_eq_true_eq, Bool.or_eq_true, bne_iff_ne, beq_iff_eq] at hd
  refine ⟨by simp [Instr.wf, hi, hd.1], he.trans (congrArg some hb.symm), hl.trans hi.symm, rfl, fun h => ?_⟩
  rw [hi]
  exact hd.2.resolve_left fun hn => hn (hb.symm.trans h)

theorem ldBcNn (nn : Word) : Statement (.ldBcNn nn) := intro 0x01 3 rfl rfl rfl rfl rfl
theorem ldBN (n : Byte) : Statement (.ldBN n) := intro 0x06 2 rfl rfl rfl rfl rfl
theorem ldMemNnSp (nn : Word) : Statement (.ldMemNnSp nn) := intro 0x08 3 rfl rfl rfl rfl rfl
theorem ldCN (n : Byte) : Statement (.ldCN n) := intro 0x0E 2 rfl rfl rfl rfl rfl
theorem ldDeNn (nn : Word) : Statement (.ldDeNn nn) := intro 0x11 3 rfl rfl rfl rfl rfl
theorem ldDN (n : Byte) : Statement (.ldDN n) := intro 0x16 2 rfl rfl rfl rfl rfl
theorem jr (e : Byte) : Statement (.jr e) := intro 0x18 2 rfl rfl rfl rfl rfl
theorem ldEN (n : Byte) : Statement (.ldEN n) := intro 0x1E 2 rfl rfl rfl rfl rfl
theorem jrNz (e : Byte) : Statement (.jrNz e) := intro 0x20 2 rfl rfl rfl rfl rfl
theorem ldHlNn (nn : Word) : Statement (.ldHlNn nn) := intro 0x21 3 rfl rfl rfl rfl rfl
theorem ldHN (n : Byte) : Statement (.ldHN n) := intro 0x26 2 rfl rfl rfl rfl rfl
theorem jrZ (e : Byte) : Statement (.jrZ e) := intro 0x28 2 rfl rfl rfl rfl rfl
theorem ldLN (n : Byte) : Statement (.ldLN n) := intro 0x2E 2 rfl rfl rfl rfl rfl
theorem jrNc (e : Byte) : Statement (.jrNc e) := intro 0x30 2 rfl rfl rfl rfl rfl
theorem ldSpNn (nn : Word) : Statement (.ldSpNn nn) := intro 0x31 3 rfl rfl rfl rfl rfl
theorem ldMemHlN (n : Byte) : Statement (.ldMemHlN n) := intro 0x36 2 rfl rfl rfl rfl rfl
theorem jrC (e : Byte) : Statement (.jrC e) := intro 0x38 2 rfl rfl rfl rfl rfl
theorem ldAN (n : Byte) : Statement (.ldAN n) := intro 0x3E 2 rfl rfl rfl rfl rfl
theorem jpNzNn (nn : Word) : Statement (.jpNzNn nn) := intro 0xC2 3 rfl rfl rfl rfl rfl
theorem jpNn (nn : Word) : Statement (.jpNn nn) := intro 0xC3 3 rfl rfl rfl rfl rfl
theorem callNzNn (nn : Word) : Statement (.callNzNn nn) := intro 0xC4 3 rfl rfl rfl rfl rfl
theorem addAN (n : Byte) : Statement (.addAN n) := intro 0xC6 2 rfl rfl rfl rfl rfl
theorem jpZNn (nn : Word) : Statement (.jpZNn nn) := intro 0xCA 3 rfl rfl rfl rfl rfl
theorem callZNn (nn : Word) : Statement (.callZNn nn) := intro 0xCC 3 rfl rfl rfl rfl rfl
theorem callNn (nn : Word) : Statement (.callNn nn) := intro 0xCD 3 rfl rfl rfl rfl rfl
theorem adcAN (n : Byte) : Statement (.adcAN n) := intro 0xCE 2 rfl rfl rfl rfl rfl
theorem jpNcNn (nn : Word) : Statement (.jpNcNn nn) := intro 0xD2 3 rfl rfl rfl rfl rfl
theorem callNcNn (nn : Word) : Statement (.callNcNn nn) := intro 0xD4 3 rfl rfl rfl rfl rfl
theorem subN (n : Byte) : Statement (.subN n) := intro 0xD6 2 rfl rfl rfl rfl rfl
theorem jpCNn (nn : Word) : Statement (.jpCNn nn) := intro 0xDA 3 rfl rfl rfl rfl rfl
theorem callCNn (nn : Word) : Statement (.callCNn nn) := intro 0xDC 3 rfl rfl rfl rfl rfl
theorem sbcAN (n : Byte) : Statement (.sbcAN n) := intro 0xDE 2 rfl rfl rfl rfl rfl
theorem ldhMemNA (n : Byte) : Statement (.ldhMemNA n) := intro 0xE0 2 rfl rfl rfl rfl rfl
theorem andN (n : Byte) : Statement (.andN n) := intro 0xE6 2 rfl rfl rfl rfl rfl
theorem addSpE (e : Byte) : Statement (.addSpE e) := intro 0xE8 2 rfl rfl rfl rfl rfl
theorem ldMemNnA (nn : Word) : Statement (.ldMemNnA nn) := intro 0xEA 3 rfl rfl rfl rfl rfl
theorem xorN (n : Byte) : Statement (.xorN n) := intro 0xEE 2 rfl rfl rfl rfl rfl
theorem ldhAMemN (n : Byte) : Statement (.ldhAMemN n) := intro 0xF0 2 rfl rfl rfl rfl rfl
theorem orN (n : Byte) : Statement (.orN n) := intro 0xF6 2 rfl rfl rfl rfl rfl
theorem ldHlSpE (e : Byte) : Statement (.ldHlSpE e) := intro 0xF8 2 rfl rfl rfl rfl rfl
theorem ldAMemNn (nn : Word) : Statement (.ldAMemNn nn) := intro 0xFA 3 rfl rfl rfl rfl rfl
theorem cpN (n : Byte) : Statement (.cpN n) := intro 0xFE 2 rfl rfl rfl rfl rfl
theorem nop : Statement .nop := intro 0x00 1 rfl rfl rfl rfl rfl
theorem ldMemBcA : Statement .ldMemBcA := intro 0x02 1 rfl rfl rfl rfl rfl
theorem incBc : Statement .incBc := intro 0x03 1 rfl rfl rfl rfl rfl
theorem incB : Statement .incB := intro 0x04 1 rfl rfl rfl rfl rfl
theorem decB : Statement .decB := intro 0x05 1 rfl rfl rfl rfl rfl
theorem rlca : Statement .rlca := intro 0x07 1 rfl rfl rfl rfl rfl
theorem addHlBc : Statement .addHlBc := intro 0x09 1 rfl rfl rfl rfl rfl
theorem ldAMemBc : Statement .ldAMemBc := intro 0x0A 1 rfl rfl rfl rfl rfl
theorem decBc : Statement .decBc := intro 0x0B 1 rfl rfl rfl rfl rfl
theorem incC : Statement .incC := intro 0x0C 1 rfl rfl rfl rfl rfl
theorem decC : Statement .decC := intro 0x0D 1 rfl rfl rfl rfl rfl
theorem rrca : Statement .rrca := intro 0x0F 1 rfl rfl rfl rfl rfl
theorem stop : Statement .stop := intro 0x10 2 rfl rfl rfl rfl rfl
theorem ldMemDeA : Statement .ldMemDeA := intro 0x12 1 rfl rfl rfl rfl rfl
theorem incDe : Statement .incDe := intro 0x13 1 rfl rfl rfl rfl rfl
theorem incD : Statement .incD := intro 0x14 1 rfl rfl rfl rfl rfl
theorem decD : Statement .decD := intro 0x15 1 rfl rfl rfl rfl rfl
theorem rla : Statement .rla := intro 0x17 1 rfl rfl rfl rfl rfl
theorem addHlDe : Statement .addHlDe := intro 0x19 1 rfl rfl rfl rfl rfl
theorem ldAMemDe : Statement .ldAMemDe := intro 0x1A 1 rfl rfl rfl rfl rfl
theorem decDe : Statement .decDe := intro 0x1B 1 rfl rfl rfl rfl rfl
theorem incE : Statement .incE := intro 0x1C 1 rfl rfl rfl rfl rfl
theorem decE : Statement .decE := intro 0x1D 1 rfl rfl rfl rfl rfl
theorem rra : Statement .rra := intro 0x1F 1 rfl rfl rfl rfl rfl
theorem ldMemHlIncA : Statement .ldMemHlIncA := intro 0x22 1 rfl rfl rfl rfl rfl
theorem incHl : Statement .incHl := intro 0x23 1 rfl rfl rfl rfl rfl
theorem incH : Statement .incH := intro 0x24 1 rfl rfl rfl rfl rfl
theorem decH : Statement .decH := intro 0x25 1 rfl rfl rfl rfl rfl
theorem daa : Statement .daa := intro 0x27 1 rfl rfl rfl rfl rfl
theorem addHlHl : Statement .addHlHl := intro 0x29 1 rfl rfl rfl rfl rfl
theorem ldAMemHlInc : Statement .ldAMemHlInc := intro 0x2A 1 rfl rfl rfl rfl rfl
theorem decHl : Statement .decHl := intro 0x2B 1 rfl rfl rfl rfl rfl
theorem incL : Statement .incL := intro 0x2C 1 rfl rfl rfl rfl rfl
theorem decL : Statement .decL := intro 0x2D 1 rfl rfl rfl rfl rfl
theorem cpl : Statement .cpl := intro 0x2F 1 rfl rfl rfl rfl rfl
theorem ldMemHlDecA : Statement .ldMemHlDecA := intro 0x32 1 rfl rfl rfl rfl rfl
theorem incSp : Statement .incSp := intro 0x33 1 rfl rfl rfl rfl rfl
theorem incMemHl : Statement .incMemHl := intro 0x34 1 rfl rfl rfl rfl rfl
theorem decMemHl : Statement .decMemHl := intro 0x35 1 rfl rfl rfl rfl rfl
theorem scf : Statement .scf := intro 0x37 1 rfl rfl rfl rfl rfl
theorem addHlSp : Statement .addHlSp := intro 0x39 1 rfl rfl rfl rfl rfl
theorem ldAMemHlDec : Statement .ldAMemHlDec := intro 0x3A 1 rfl rfl rfl rfl rfl
theorem decSp : Statement .decSp := intro 0x3B 1 rfl rfl rfl rfl rfl
theorem incA : Statement .incA := intro 0x3C 1 rfl rfl rfl rfl rfl
theorem decA : Statement .decA := intro 0x3D 1 rfl rfl rfl rfl rfl
theorem ccf : Statement .ccf := intro 0x3F 1 rfl rfl rfl rfl rfl
theorem ldBB : Statement .ldBB := intro 0x40 1 rfl rfl rfl rfl rfl
theorem ldBC : Statement .ldBC := intro 0x41 1 rfl rfl rfl rfl rfl
theorem ldBD : Statement .ldBD := intro 0x42 1 rfl rfl rfl rfl rfl
theorem ldBE : Statement .ldBE := intro 0x43 1 rfl rfl rfl rfl rfl
theorem ldBH : Statement .ldBH := intro 0x44 1 rfl rfl rfl rfl rfl
theorem ldBL : Statement .ldBL := intro 0x45 1 rfl rfl rfl rfl rfl
theorem ldBMemHl : Statement .ldBMemHl := intro 0x46 1 rfl rfl rfl rfl rfl
theorem ldBA : Statement .ldBA := intro 0x47 1 rfl rfl rfl rfl rfl
theorem ldCB : Statement .ldCB := intro 0x48 1 rfl rfl rfl rfl rfl
theorem ldCC : Statement .ldCC := intro 0x49 1 rfl rfl rfl rfl rfl
theorem ldCD : Statement .ldCD := intro 0x4A 1 rfl rfl rfl rfl rfl
theorem ldCE : Statement .ldCE := intro 0x4B 1 rfl rfl rfl rfl rfl
theorem ldCH : Statement .ldCH := intro 0x4C 1 rfl rfl rfl rfl rfl
theorem ldCL : Statement .ldCL := intro 0x4D 1 rfl rfl rfl rfl rfl
theorem ldCMemHl : Statement .ldCMemHl := intro 0x4E 1 rfl rfl rfl rfl rfl
theorem ldCA : Statement .ldCA := intro 0x4F 1 rfl rfl rfl rfl rfl
theorem ldDB : Statement .ldDB := intro 0x50 1 rfl rfl rfl rfl rfl
theorem ldDC : Statement .ldDC := intro 0x51 1 rfl rfl rfl rfl rfl
theorem ldDD : Statement .ldDD := intro 0x52 1 rfl rfl rfl rfl rfl
theorem ldDE : Statement .ldDE := intro 0x53 1 rfl rfl rfl rfl rfl
theorem ldDH : Statement .ldDH := intro 0x54 1 rfl rfl rfl rfl rfl
theorem ldDL : Statement .ldDL := intro 0x55 1 rfl rfl rfl rfl rfl
theorem ldDMemHl : Statement .ldDMemHl := intro 0x56 1 rfl rfl rfl rfl rfl
theorem ldDA : Statement .ldDA := intro 0x57 1 rfl rfl rfl rfl rfl
theorem ldEB : Statement .ldEB := intro 0x58 1 rfl rfl rfl rfl rfl
theorem ldEC : Statement .ldEC := intro 0x59 1 rfl rfl rfl rfl rfl
theorem ldED : Statement .ldED := intro 0x5A 1 rfl rfl rfl rfl rfl
theorem ldEE : Statement .ldEE := intro 0x5B 1 rfl rfl rfl rfl rfl
theorem ldEH : Statement .ldEH := intro 0x5C 1 rfl rfl rfl rfl rfl
theorem ldEL : Statement .ldEL := intro 0x5D 1 rfl rfl rfl rfl rfl
theorem ldEMemHl : Statement .ldEMemHl := intro 0x5E 1 rfl rfl rfl rfl rfl
theorem ldEA : Statement .ldEA := intro 0x5F 1 rfl rfl rfl rfl rfl
theorem ldHB : Statement .ldHB := intro 0x60 1 rfl rfl rfl rfl rfl
theorem ldHC : Statement .ldHC := intro 0x61 1 rfl rfl rfl rfl rfl
theorem ldHD : Statement .ldHD := intro 0x62 1 rfl rfl rfl rfl rfl
theorem ldHE : Statement .ldHE := intro 0x63 1 rfl rfl rfl rfl rfl
theorem ldHH : Statement .ldHH := intro 0x64 1 rfl rfl rfl rfl rfl
theorem ldHL : Statement .ldHL := intro 0x65 1 rfl rfl rfl rfl rfl
theorem ldHMemHl : Statement .ldHMemHl := intro 0x66 1 rfl rfl rfl rfl rfl
theorem ldHA : Statement .ldHA := intro 0x67 1 rfl rfl rfl rfl rfl
theorem ldLB : Statement .ldLB := intro 0x68 1 rfl rfl rfl rfl rfl
theorem ldLC : Statement .ldLC := intro 0x69 1 rfl rfl rfl rfl rfl
theorem ldLD : Statement .ldLD := intro 0x6A 1 rfl rfl rfl rfl rfl
theorem ldLE : Statement .ldLE := intro 0x6B 1 rfl rfl rfl rfl rfl
theorem ldLH : Statement .ldLH := intro 0x6C 1 rfl rfl rfl rfl rfl
theorem ldLL : Statement .ldLL := intro 0x6D 1 rfl rfl rfl rfl rfl
theorem ldLMemHl : Statement .ldLMemHl := intro 0x6E 1 rfl rfl rfl rfl rfl
theorem ldLA : Statement .ldLA := intro 0x6F 1 rfl rfl rfl rfl rfl
theorem ldMemHlB : Statement .ldMemHlB := intro 0x70 1 rfl rfl rfl rfl rfl
theorem ldMemHlC : Statement .ldMemHlC := intro 0x71 1 rfl rfl rfl rfl rfl
theorem ldMemHlD : Statement .ldMemHlD := intro 0x72 1 rfl rfl rfl rfl rfl
theorem ldMemHlE : Statement .ldMemHlE := intro 0x73 1 rfl rfl rfl rfl rfl
theorem ldMemHlH : Statement .ldMemHlH := intro 0x74 1 rfl rfl rfl rfl rfl
theorem ldMemHlL : Statement .ldMemHlL := intro 0x75 1 rfl rfl rfl rfl rfl
theorem halt : Statement .halt := intro 0x76 1 rfl rfl rfl rfl rfl
theorem ldMemHlA : Statement .ldMemHlA := intro 0x77 1 rfl rfl rfl rfl rfl
theorem ldAB : Statement .ldAB := intro 0x78 1 rfl rfl rfl rfl rfl
theorem ldAC : Statement .ldAC := intro 0x79 1 rfl rfl rfl rfl rfl
theorem ldAD : Statement .ldAD := intro 0x7A 1 rfl rfl rfl rfl rfl
theorem ldAE : Statement .ldAE := intro 0x7B 1 rfl rfl rfl rfl rfl
theorem ldAH : Statement .ldAH := intro 0x7C 1 rfl rfl rfl rfl rfl
theorem ldAL : Statement .ldAL := intro 0x7D 1 rfl rfl rfl rfl rfl
theorem ldAMemHl : Statement .ldAMemHl := intro 0x7E 1 rfl rfl rfl rfl rfl
theorem ldAA : Statement .ldAA := intro 0x7F 1 rfl rfl rfl rfl rfl
theorem addAB : Statement .addAB := intro 0x80 1 rfl rfl rfl rfl rfl
theorem addAC : Statement .addAC := intro 0x81 1 rfl rfl rfl rfl rfl
theorem addAD : Statement .addAD := intro 0x82 1 rfl rfl rfl rfl rfl
theorem addAE : Statement .addAE := intro 0x83 1 rfl rfl rfl rfl rfl
theorem addAH : Statement .addAH := intro 0x84 1 rfl rfl rfl rfl rfl
theorem addAL : Statement .addAL := intro 0x85 1 rfl rfl rfl rfl rfl
theorem addAMemHl : Statement .addAMemHl := intro 0x86 1 rfl rfl rfl rfl rfl
theorem addAA : Statement .addAA := intro 0x87 1 rfl rfl rfl rfl rfl
theorem adcAB : Statement .adcAB := intro 0x88 1 rfl rfl rfl rfl rfl
theorem adcAC : Statement .adcAC := intro 0x89 1 rfl rfl rfl rfl rfl
theorem adcAD : Statement .adcAD := intro 0x8A 1 rfl rfl rfl rfl rfl
theorem adcAE : Statement .adcAE := intro 0x8B 1 rfl rfl rfl rfl rfl
theorem adcAH : Statement .adcAH := intro 0x8C 1 rfl rfl rfl rfl rfl
theorem adcAL : Statement .adcAL := intro 0x8D 1 rfl rfl rfl rfl rfl
theorem adcAMemHl : Statement .adcAMemHl := intro 0x8E 1 rfl rfl rfl rfl rfl
theorem adcAA : Statement .adcAA := intro 0x8F 1 rfl rfl rfl rfl rfl
theorem subB : Statement .subB := intro 0x90 1 rfl rfl rfl rfl rfl
theorem subC : Statement .subC := intro 0x91 1 rfl rfl rfl rfl rfl
theorem subD : Statement .subD := intro 0x92 1 rfl rfl rfl rfl rfl
theorem subE : Statement .subE := intro 0x93 1 rfl rfl rfl rfl rfl
theorem subH : Statement .subH := intro 0x94 1 rfl rfl rfl rfl rfl
theorem subL : Statement .subL := intro 0x95 1 rfl rfl rfl rfl rfl
theorem subMemHl : Statement .subMemHl := intro 0x96 1 rfl rfl rfl rfl rfl
theorem subA : Statement .subA := intro 0x97 1 rfl rfl rfl rfl rfl
theorem sbcAB : Statement .sbcAB := intro 0x98 1 rfl rfl rfl rfl rfl
theorem sbcAC : Statement .sbcAC := intro 0x99 1 rfl rfl rfl rfl rfl
theorem sbcAD : Statement .sbcAD := intro 0x9A 1 rfl rfl rfl rfl rfl
theorem sbcAE : Statement .sbcAE := intro 0x9B 1 rfl rfl rfl rfl rfl
theorem sbcAH : Statement .sbcAH := intro 0x9C 1 rfl rfl rfl rfl rfl
theorem sbcAL : Statement .sbcAL := intro 0x9D 1 rfl rfl rfl rfl rfl
theorem sbcAMemHl : Statement .sbcAMemHl := intro 0x9E 1 rfl rfl rfl rfl rfl
theorem sbcAA : Statement .sbcAA := intro 0x9F 1 rfl rfl rfl rfl rfl
theorem andB : Statement .andB := intro 0xA0 1 rfl rfl rfl rfl rfl
theorem andC : Statement .andC := intro 0xA1 1 rfl rfl rfl rfl rfl
theorem andD : Statement .andD := intro 0xA2 1 rfl rfl rfl rfl rfl
theorem andE : Statement .andE := intro 0xA3 1 rfl rfl rfl rfl rfl
theorem andH : Statement .andH := intro 0xA4 1 rfl rfl rfl rfl rfl
theorem andL : Statement .andL := intro 0xA5 1 rfl rfl rfl rfl rfl
theorem andMemHl : Statement .andMemHl := intro 0xA6 1 rfl rfl rfl rfl rfl
theorem andA : Statement .andA := intro 0xA7 1 rfl rfl rfl rfl rfl
theorem xorB : Statement .xorB := intro 0xA8 1 rfl rfl rfl rfl rfl
theorem xorC : Statement .xorC := intro 0xA9 1 rfl rfl rfl rfl rfl
theorem xorD : Statement .xorD := intro 0xAA 1 rfl rfl rfl rfl rfl
theorem xorE : Statement .xorE := intro 0xAB 1 rfl rfl rfl rfl rfl
theorem xorH : Statement .xorH := intro 0xAC 1 rfl rfl rfl rfl rfl
theorem xorL : Statement .xorL := intro 0xAD 1 rfl rfl rfl rfl rfl
theorem xorMemHl : Statement .xorMemHl := intro 0xAE 1 rfl rfl rfl rfl rfl
theorem xorA : Statement .xorA := intro 0xAF 1 rfl rfl rfl rfl rfl
theorem orB : Statement .orB := intro 0xB0 1 rfl rfl rfl rfl rfl
theorem orC : Statement .orC := intro 0xB1 1 rfl rfl rfl rfl rfl
theorem orD : Statement .orD := intro 0xB2 1 rfl rfl rfl rfl rfl
theorem orE : Statement .orE := intro 0xB3 1 rfl rfl rfl rfl rfl
theorem orH : Statement .orH := intro 0xB4 1 rfl rfl rfl rfl rfl
theorem orL : Statement .orL := intro 0xB5 1 rfl rfl rfl rfl rfl
theorem orMemHl : Statement .orMemHl := intro 0xB6 1 rfl rfl rfl rfl rfl
theorem orA : Statement .orA := intro 0xB7 1 rfl rfl rfl rfl rfl
theorem cpB : Statement .cpB := intro 0xB8 1 rfl rfl rfl rfl rfl
theorem cpC : Statement .cpC := intro 0xB9 1 rfl rfl rfl rfl rfl
theorem cpD : Statement .cpD := intro 0xBA 1 rfl rfl rfl rfl rfl
theorem cpE : Statement .cpE := intro 0xBB 1 rfl rfl rfl rfl rfl
theorem cpH : Statement .cpH := intro 0xBC 1 rfl rfl rfl rfl rfl
theorem cpL : Statement .cpL := intro 0xBD 1 rfl rfl rfl rfl rfl
theorem cpMemHl : Statement .cpMemHl := intro 0xBE 1 rfl rfl rfl rfl rfl
theorem cpA : Statement .cpA := intro 0xBF 1 rfl rfl rfl rfl rfl
theorem retNz : Statement .retNz := intro 0xC0 1 rfl rfl rfl rfl rfl
theorem popBc : Statement .popBc := intro 0xC1 1 rfl rfl rfl rfl rfl
theorem pushBc : Statement .pushBc := intro 0xC5 1 rfl rfl rfl rfl rfl
theorem rst00 : Statement .rst00 := intro 0xC7 1 rfl rfl rfl rfl rfl
theorem retZ : Statement .retZ := intro 0xC8 1 rfl rfl rfl rfl rfl
theorem ret : Statement .ret := intro 0xC9 1 rfl rfl rfl rfl rfl
theorem rst08 : Statement .rst08 := intro 0xCF 1 rfl rfl rfl rfl rfl
theorem retNc : Statement .retNc := intro 0xD0 1 rfl rfl rfl rfl rfl
theorem popDe : Statement .popDe := intro 0xD1 1 rfl rfl rfl rfl rfl
theorem illegalD3 : Statement .illegalD3 := intro 0xD3 1 rfl rfl rfl rfl rfl
theorem pushDe : Statement .pushDe := intro 0xD5 1 rfl rfl rfl rfl rfl
theorem rst10 : Statement .rst10 := intro 0xD7 1 rfl rfl rfl rfl rfl
theorem retC : Statement .retC := intro 0xD8 1 rfl rfl rfl rfl rfl
theorem reti : Statement .reti := intro 0xD9 1 rfl rfl rfl rfl rfl
theorem illegalDB : Statement .illegalDB := intro 0xDB 1 rfl rfl rfl rfl rfl
theorem illegalDD : Statement .illegalDD := intro 0xDD 1 rfl rfl rfl rfl rfl
theorem rst18 : Statement .rst18 := intro 0xDF 1 rfl rfl rfl rfl rfl
theorem popHl : Statement .popHl := intro 0xE1 1 rfl rfl rfl rfl rfl
theorem ldhMemCA : Statement .ldhMemCA := intro 0xE2 1 rfl rfl rfl rfl rfl
theorem illegalE3 : Statement .illegalE3 := intro 0xE3 1 rfl rfl rfl rfl rfl
theorem illegalE4 : Statement .illegalE4 := intro 0xE4 1 rfl rfl rfl rfl rfl
theorem pushHl : Statement .pushHl := intro 0xE5 1 rfl rfl rfl rfl rfl
theorem rst20 : Statement .rst20 := intro 0xE7 1 rfl rfl rfl rfl rfl
theorem jpHl : Statement .jpHl := intro 0xE9 1 rfl rfl rfl rfl rfl
theorem illegalEB : Statement .illegalEB := intro 0xEB 1 rfl rfl rfl rfl rfl
theorem illegalEC : Statement .illegalEC := intro 0xEC 1 rfl rfl rfl rfl rfl
theorem illegalED : Statement .illegalED := intro 0xED 1 rfl rfl rfl rfl rfl
theorem rst28 : Statement .rst28 := intro 0xEF 1 rfl rfl rfl rfl rfl
theorem popAf : Statement .popAf := intro 0xF1 1 rfl rfl rfl rfl rfl
theorem ldhAMemC : Statement .ldhAMemC := intro 0xF2 1 rfl rfl rfl rfl rfl
theorem di : Statement .di := intro 0xF3 1 rfl rfl rfl rfl rfl
theorem illegalF4 : Statement .illegalF4 := intro 0xF4 1 rfl rfl rfl rfl rfl
theorem pushAf : Statement .pushAf := intro 0xF5 1 rfl rfl rfl rfl rfl
theorem rst30 : Statement .rst30 := intro 0xF7 1 rfl rfl rfl rfl rfl
theorem ldSpHl : Statement .ldSpHl := intro 0xF9 1 rfl rfl rfl rfl rfl
theorem ei : Statement .ei := intro 0xFB 1 rfl rfl rfl rfl rfl
theorem illegalFC : Statement .illegalFC := intro 0xFC 1 rfl rfl rfl rfl rfl
theorem illegalFD : Statement .illegalFD := intro 0xFD 1 rfl rfl rfl rfl rfl
theorem rst38 : Statement .rst38 := intro 0xFF 1 rfl rfl rfl rfl rfl
theorem rlcB : Statement .rlcB := intro 0xCB 2 rfl rfl rfl rfl rfl
theorem rlcC : Statement .rlcC := intro 0xCB 2 rfl rfl rfl rfl rfl
theorem rlcD : Statement .rlcD := intro 0xCB 2 rfl rfl rfl rfl rfl
theorem rlcE : Statement .rlcE := intro 0xCB 2 rfl rfl rfl rfl rfl
theorem rlcH : Statement .rlcH := intro 0xCB 2 rfl rfl rfl rfl rfl
theorem rlcL : Statement .rlcL := intro 0xCB 2 rfl rfl rfl rfl rfl
theorem rlcMemHl : Statement .rlcMemHl := intro 0xCB 2 rfl rfl rfl rfl rfl
theorem rlcA : Statement .rlcA := intro 0xCB 2 rfl rfl rfl rfl rfl
theorem rrcB : Statement .rrcB := intro 0xCB 2 rfl rfl rfl rfl rfl
theorem rrcC : Statement .rrcC := intro 0xCB 2 rfl rfl rfl rfl rfl
theorem rrcD : Statement .rrcD := intro 0xCB 2 rfl rfl rfl rfl rfl
theorem rrcE : Statement .rrcE := intro 0xCB 2 rfl rfl rfl rfl rfl
theorem rrcH : Statement .rrcH := intro 0xCB 2 rfl rfl rfl rfl rfl
theorem rrcL : Statement .rrcL := intro 0xCB 2 rfl rfl rfl rfl rfl
theorem rrcMemHl : Statement .rrcMemHl := intro 0xCB 2 rfl rfl rfl rfl rfl
theorem rrcA : Statement .rrcA := intro 0xCB 2 rfl rfl rfl rfl rfl
theorem rlB : Statement .rlB := intro 0xCB 2 rfl rfl rfl rfl rfl
theorem rlC : Statement .rlC := intro 0xCB 2 rfl rfl rfl rfl rfl
theorem rlD : Statement .rlD := intro 0xCB 2 rfl rfl rfl rfl rfl
theorem rlE : Statement .rlE := intro 0xCB 2 rfl rfl rfl rfl rfl
theorem rlH : Statement .rlH := intro 0xCB 2 rfl rfl rfl rfl rfl
theorem rlL : Statement .rlL := intro 0xCB 2 rfl rfl rfl rfl rfl
theorem rlMemHl : Statement .rlMemHl := intro 0xCB 2 rfl rfl rfl rfl rfl
theorem rlA : Statement .rlA := intro 0xCB 2 rfl rfl rfl rfl rfl
theorem rrB : Statement .rrB := intro 0xCB 2 rfl rfl rfl rfl rfl
theorem rrC : Statement .rrC := intro 0xCB 2 rfl rfl rfl rfl rfl
theorem rrD : Statement .rrD := intro 0xCB 2 rfl rfl rfl rfl rfl
theorem rrE : Statement .rrE := intro 0xCB 2 rfl rfl rfl rfl rfl
theorem rrH : Statement .rrH := intro 0xCB 2 rfl rfl rfl rfl rfl
theorem rrL : Statement .rrL := intro 0xCB 2 rfl rfl rfl rfl rfl
theorem rrMemHl : Statement .rrMemHl := intro 0xCB 2 rfl rfl rfl rfl rfl
theorem rrA : Statement .rrA := intro 0xCB 2 rfl rfl rfl rfl rfl
theorem slaB : Statement .slaB := intro 0xCB 2 rfl rfl rfl rfl rfl
theorem slaC : Statement .slaC := intro 0xCB 2 rfl rfl rfl rfl rfl
theorem slaD : Statement .slaD := intro 0xCB 2 rfl rfl rfl rfl rfl
theorem slaE : Statement .slaE := intro 0xCB 2 rfl rfl rfl rfl rfl
theorem slaH : Statement .slaH := intro 0xCB 2 rfl rfl rfl rfl rfl
theorem slaL : Statement .slaL := intro 0xCB 2 rfl rfl rfl rfl rfl
theorem slaMemHl : Statement .slaMemHl := intro 0xCB 2 rfl rfl rfl rfl rfl
theorem slaA : Statement .slaA := intro 0xCB 2 rfl rfl rfl rfl rfl
theorem sraB : Statement .sraB := intro 0xCB 2 rfl rfl rfl rfl rfl
theorem sraC : Statement .sraC := intro 0xCB 2 rfl rfl rfl rfl rfl
theorem sraD : Statement .sraD := intro 0xCB 2 rfl rfl rfl rfl rfl
theorem sraE : Statement .sraE := intro 0xCB 2 rfl rfl rfl rfl rfl
theorem sraH : Statement .sraH := intro 0xCB 2 rfl rfl rfl rfl rfl
theorem sraL : Statement .sraL := intro 0xCB 2 rfl rfl rfl rfl rfl
theorem sraMemHl : Statement .sraMemHl := intro 0xCB 2 rfl rfl rfl rfl rfl
theorem sraA : Statement .sraA := intro 0xCB 2 rfl rfl rfl rfl rfl
theorem swapB : Statement .swapB := intro 0xCB 2 rfl rfl rfl rfl rfl
theorem swapC : Statement .swapC := intro 0xCB 2 rfl rfl rfl rfl rfl
theorem swapD : Statement .swapD := intro 0xCB 2 rfl rfl rfl rfl rfl
theorem swapE : Statement .swapE := intro 0xCB 2 rfl rfl rfl rfl rfl
theorem swapH : Statement .swapH := intro 0xCB 2 rfl rfl rfl rfl rfl
theorem swapL : Statement .swapL := intro 0xCB 2 rfl rfl rfl rfl rfl
theorem swapMemHl : Statement .swapMemHl := intro 0xCB 2 rfl rfl rfl rfl rfl
theorem swapA : Statement .swapA := intro 0xCB 2 rfl rfl rfl rfl rfl
theorem srlB : Statement .srlB := intro 0xCB 2 rfl rfl rfl rfl rfl
theorem srlC : Statement .srlC := intro 0xCB 2 rfl rfl rfl rfl rfl
theorem srlD : Statement .srlD := intro 0xCB 2 rfl rfl rfl rfl rfl
theorem srlE : Statement .srlE := intro 0xCB 2 rfl rfl rfl rfl rfl
theorem srlH : Statement .srlH := intro 0xCB 2 rfl rfl rfl rfl rfl
theorem srlL : Statement .srlL := intro 0xCB 2 rfl rfl rfl rfl rfl
theorem srlMemHl : Statement .srlMemHl := intro 0xCB 2 rfl rfl rfl rfl rfl
theorem srlA : Statement .srlA := intro 0xCB 2 rfl rfl rfl rfl rfl
theorem bit0B : Statement .bit0B := intro 0xCB 2 rfl rfl rfl rfl rfl
theorem bit0C : Statement .bit0C := intro 0xCB 2 rfl rfl rfl rfl rfl
theorem bit0D : Statement .bit0D := intro 0xCB 2 rfl rfl rfl rfl rfl
theorem bit0E : Statement .bit0E := intro 0xCB 2 rfl rfl rfl rfl rfl
theorem bit0H : Statement .bit0H := intro 0xCB 2 rfl rfl rfl rfl rfl
theorem bit0L : Statement .bit0L := intro 0xCB 2 rfl rfl rfl rfl rfl
theorem bit0MemHl : Statement .bit0MemHl := intro 0xCB 2 rfl rfl rfl rfl rfl
theorem bit0A : Statement .bit0A := intro 0xCB 2 rfl rfl rfl rfl rfl
theorem bit1B : Statement .bit1B := intro 0xCB 2 rfl rfl rfl rfl rfl
theorem bit1C : Statement .bit1C := intro 0xCB 2 rfl rfl rfl rfl rfl
theorem bit1D : Statement .bit1D := intro 0xCB 2 rfl rfl rfl rfl rfl
theorem bit1E : Statement .bit1E := intro 0xCB 2 rfl rfl rfl rfl rfl
theorem bit1H : Statement .bit1H := intro 0xCB 2 rfl rfl rfl rfl rfl
theorem bit1L : Statement .bit1L := intro 0xCB 2 rfl rfl rfl rfl rfl
theorem bit1MemHl : Statement .bit1MemHl := intro 0xCB 2 rfl rfl rfl rfl rfl
theorem bit1A : Statement .bit1A := intro 0xCB 2 rfl rfl rfl rfl rfl
theorem bit2B : Statement .bit2B := intro 0xCB 2 rfl rfl rfl rfl rfl
theorem bit2C : Statement .bit2C := intro 0xCB 2 rfl rfl rfl rfl rfl
theorem bit2D : Statement .bit2D := intro 0xCB 2 rfl rfl rfl rfl rfl
theorem bit2E : Statement .bit2E := intro 0xCB 2 rfl rfl rfl rfl rfl
theorem bit2H : Statement .bit2H := intro 0xCB 2 rfl rfl rfl rfl rfl
theorem bit2L : Statement .bit2L := intro 0xCB 2 rfl rfl rfl rfl rfl
theorem bit2MemHl : Statement .bit2MemHl := intro 0xCB 2 rfl rfl rfl rfl rfl
theorem bit2A : Statement .bit2A := intro 0xCB 2 rfl rfl rfl rfl rfl
theorem bit3B : Statement .bit3B := intro 0xCB 2 rfl rfl rfl rfl rfl
theorem bit3C : Statement .bit3C := intro 0xCB 2 rfl rfl rfl rfl rfl
theorem bit3D : Statement .bit3D := intro 0xCB 2 rfl rfl rfl rfl rfl
theorem bit3E : Statement .bit3E := intro 0xCB 2 rfl rfl rfl rfl rfl
theorem bit3H : Statement .bit3H := intro 0xCB 2 rfl rfl rfl rfl rfl
theorem bit3L : Statement .bit3L := intro 0xCB 2 rfl rfl rfl rfl rfl
theorem bit3MemHl : Statement .bit3MemHl := intro 0xCB 2 rfl rfl rfl rfl rfl
theorem bit3A : Statement .bit3A := intro 0xCB 2 rfl rfl rfl rfl rfl
theorem bit4B : Statement .bit4B := intro 0xCB 2 rfl rfl rfl rfl rfl
theorem bit4C : Statement .bit4C := intro 0xCB 2 rfl rfl rfl rfl rfl
theorem bit4D : Statement .bit4D := intro 0xCB 2 rfl rfl rfl rfl rfl
theorem bit4E : Statement .bit4E := intro 0xCB 2 rfl rfl rfl rfl rfl
theorem bit4H : Statement .bit4H := intro 0xCB 2 rfl rfl rfl rfl rfl
theorem bit4L : Statement .bit4L := intro 0xCB 2 rfl rfl rfl rfl rfl
theorem bit4MemHl : Statement .bit4MemHl := intro 0xCB 2 rfl rfl rfl rfl rfl
theorem bit4A : Statement .bit4A := intro 0xCB 2 rfl rfl rfl rfl rfl
theorem bit5B : Statement .bit5B := intro 0xCB 2 rfl rfl rfl rfl rfl
theorem bit5C : Statement .bit5C := intro 0xCB 2 rfl rfl rfl rfl rfl
theorem bit5D : Statement .bit5D := intro 0xCB 2 rfl rfl rfl rfl rfl
theorem bit5E : Statement .bit5E := intro 0xCB 2 rfl rfl rfl rfl rfl
theorem bit5H : Statement .bit5H := intro 0xCB 2 rfl rfl rfl rfl rfl
theorem bit5L : Statement .bit5L := intro 0xCB 2 rfl rfl rfl rfl rfl
theorem bit5MemHl : Statement .bit5MemHl := intro 0xCB 2 rfl rfl rfl rfl rfl
theorem bit5A : Statement .bit5A := intro 0xCB 2 rfl rfl rfl rfl rfl
theorem bit6B : Statement .bit6B := intro 0xCB 2 rfl rfl rfl rfl rfl
theorem bit6C : Statement .bit6C := intro 0xCB 2 rfl rfl rfl rfl rfl
theorem bit6D : Statement .bit6D := intro 0xCB 2 rfl rfl rfl rfl rfl
theorem bit6E : Statement .bit6E := intro 0xCB 2 rfl rfl rfl rfl rfl
theorem bit6H : Statement .bit6H := intro 0xCB 2 rfl rfl rfl rfl rfl
theorem bit6L : Statement .bit6L := intro 0xCB 2 rfl rfl rfl rfl rfl
theorem bit6MemHl : Statement .bit6MemHl := intro 0xCB 2 rfl rfl rfl rfl rfl
theorem bit6A : Statement .bit6A := intro 0xCB 2 rfl rfl rfl rfl rfl
theorem bit7B : Statement .bit7B := intro 0xCB 2 rfl rfl rfl rfl rfl
theorem bit7C : Statement .bit7C := intro 0xCB 2 rfl rfl rfl rfl rfl
theorem bit7D : Statement .bit7D := intro 0xCB 2 rfl rfl rfl rfl rfl
theorem bit7E : Statement .bit7E := intro 0xCB 2 rfl rfl rfl rfl rfl
theorem bit7H : Statement .bit7H := intro 0xCB 2 rfl rfl rfl rfl rfl
theorem bit7L : Statement .bit7L := intro 0xCB 2 rfl rfl rfl rfl rfl
theorem bit7MemHl : Statement .bit7MemHl := intro 0xCB 2 rfl rfl rfl rfl rfl
theorem bit7A : Statement .bit7A := intro 0xCB 2 rfl rfl rfl rfl rfl
theorem res0B : Statement .res0B := intro 0xCB 2 rfl rfl rfl rfl rfl
theorem res0C : Statement .res0C := intro 0xCB 2 rfl rfl rfl rfl rfl
theorem res0D : Statement .res0D := intro 0xCB 2 rfl rfl rfl rfl rfl
theorem res0E : Statement .res0E := intro 0xCB 2 rfl rfl rfl rfl rfl
theorem res0H : Statement .res0H := intro 0xCB 2 rfl rfl rfl rfl rfl
theorem res0L : Statement .res0L := intro 0xCB 2 rfl rfl rfl rfl rfl
theorem res0MemHl : Statement .res0MemHl := intro 0xCB 2 rfl rfl rfl rfl rfl
theorem res0A : Statement .res0A := intro 0xCB 2 rfl rfl rfl rfl rfl
theorem res1B : Statement .res1B := intro 0xCB 2 rfl rfl rfl rfl rfl
theorem res1C : Statement .res1C := intro 0xCB 2 rfl rfl rfl rfl rfl
theorem res1D : Statement .res1D := intro 0xCB 2 rfl rfl rfl rfl rfl
theorem res1E : Statement .res1E := intro 0xCB 2 rfl rfl rfl rfl rfl
theorem res1H : Statement .res1H := intro 0xCB 2 rfl rfl rfl rfl rfl
theorem res1L : Statement .res1L := intro 0xCB 2 rfl rfl rfl rfl rfl
theorem res1MemHl : Statement .res1MemHl := intro 0xCB 2 rfl rfl rfl rfl rfl
theorem res1A : Statement .res1A := intro 0xCB 2 rfl rfl rfl rfl rfl
theorem res2B : Statement .res2B := intro 0xCB 2 rfl rfl rfl rfl rfl
theorem res2C : Statement .res2C := intro 0xCB 2 rfl rfl rfl rfl rfl
theorem res2D : Statement .res2D := intro 0xCB 2 rfl rfl rfl rfl rfl
theorem res2E : Statement .res2E := intro 0xCB 2 rfl rfl rfl rfl rfl
theorem res2H : Statement .res2H := intro 0xCB 2 rfl rfl rfl rfl rfl
theorem res2L : Statement .res2L := intro 0xCB 2 rfl rfl rfl rfl rfl
theorem res2MemHl : Statement .res2MemHl := intro 0xCB 2 rfl rfl rfl rfl rfl
theorem res2A : Statement .res2A := intro 0xCB 2 rfl rfl rfl rfl rfl
theorem res3B : Statement .res3B := intro 0xCB 2 rfl rfl rfl rfl rfl
theorem res3C : Statement .res3C := intro 0xCB 2 rfl rfl rfl rfl rfl
theorem res3D : Statement .res3D := intro 0xCB 2 rfl rfl rfl rfl rfl
theorem res3E : Statement .res3E := intro 0xCB 2 rfl rfl rfl rfl rfl
theorem res3H : Statement .res3H := intro 0xCB 2 rfl rfl rfl rfl rfl
theorem res3L : Statement .res3L := intro 0xCB 2 rfl rfl rfl rfl rfl
theorem res3MemHl : Statement .res3MemHl := intro 0xCB 2 rfl rfl rfl rfl rfl
theorem res3A : Statement .res3A := intro 0xCB 2 rfl rfl rfl rfl rfl
theorem res4B : Statement .res4B := intro 0xCB 2 rfl rfl rfl rfl rfl
theorem res4C : Statement .res4C := intro 0xCB 2 rfl rfl rfl rfl rfl
theorem res4D : Statement .res4D := intro 0xCB 2 rfl rfl rfl rfl rfl
theorem res4E : Statement .res4E := intro 0xCB 2 rfl rfl rfl rfl rfl
theorem res4H : Statement .res4H := intro 0xCB 2 rfl rfl rfl rfl rfl
theorem res4L : Statement .res4L := intro 0xCB 2 rfl rfl rfl rfl rfl
theorem res4MemHl : Statement .res4MemHl := intro 0xCB 2 rfl rfl rfl rfl rfl
theorem res4A : Statement .res4A := intro 0xCB 2 rfl rfl rfl rfl rfl
theorem res5B : Statement .res5B := intro 0xCB 2 rfl rfl rfl rfl rfl
theorem res5C : Statement .res5C := intro 0xCB 2 rfl rfl rfl rfl rfl
theorem res5D : Statement .res5D := intro 0xCB 2 rfl rfl rfl rfl rfl
theorem res5E : Statement .res5E := intro 0xCB 2 rfl rfl rfl rfl rfl
theorem res5H : Statement .res5H := intro 0xCB 2 rfl rfl rfl rfl rfl
theorem res5L : Statement .res5L := intro 0xCB 2 rfl rfl rfl rfl rfl
theorem res5MemHl : Statement .res5MemHl := intro 0xCB 2 rfl rfl rfl rfl rfl
theorem res5A : Statement .res5A := intro 0xCB 2 rfl rfl rfl rfl rfl
theorem res6B : Statement .res6B := intro 0xCB 2 rfl rfl rfl rfl rfl
theorem res6C : Statement .res6C := intro 0xCB 2 rfl rfl rfl rfl rfl
theorem res6D : Statement .res6D := intro 0xCB 2 rfl rfl rfl rfl rfl
theorem res6E : Statement .res6E := intro 0xCB 2 rfl rfl rfl rfl rfl
theorem res6H : Statement .res6H := intro 0xCB 2 rfl rfl rfl rfl rfl
theorem res6L : Statement .res6L := intro 0xCB 2 rfl rfl rfl rfl rfl
theorem res6MemHl : Statement .res6MemHl := intro 0xCB 2 rfl rfl rfl rfl rfl
theorem res6A : Statement .res6A := intro 0xCB 2 rfl rfl rfl rfl rfl
theorem res7B : Statement .res7B := intro 0xCB 2 rfl rfl rfl rfl rfl
theorem res7C : Statement .res7C := intro 0xCB 2 rfl rfl rfl rfl rfl
theorem res7D : Statement .res7D := intro 0xCB 2 rfl rfl rfl rfl rfl
theorem res7E : Statement .res7E := intro 0xCB 2 rfl rfl rfl rfl rfl
theorem res7H : Statement .res7H := intro 0xCB 2 rfl rfl rfl rfl rfl
theorem res7L : Statement .res7L := intro 0xCB 2 rfl rfl rfl rfl rfl
theorem res7MemHl : Statement .res7MemHl := intro 0xCB 2 rfl rfl rfl rfl rfl
theorem res7A : Statement .res7A := intro 0xCB 2 rfl rfl rfl rfl rfl
theorem set0B : Statement .set0B := intro 0xCB 2 rfl rfl rfl rfl rfl
theorem set0C : Statement .set0C := intro 0xCB 2 rfl rfl rfl rfl rfl
theorem set0D : Statement .set0D := intro 0xCB 2 rfl rfl rfl rfl rfl
theorem set0E : Statement .set0E := intro 0xCB 2 rfl rfl rfl rfl rfl
theorem set0H : Statement .set0H := intro 0xCB 2 rfl rfl rfl rfl rfl
theorem set0L : Statement .set0L := intro 0xCB 2 rfl rfl rfl rfl rfl
theorem set0MemHl : Statement .set0MemHl := intro 0xCB 2 rfl rfl rfl rfl rfl
theorem set0A : Statement .set0A := intro 0xCB 2 rfl rfl rfl rfl rfl
theorem set1B : Statement .set1B := intro 0xCB 2 rfl rfl rfl rfl rfl
theorem set1C : Statement .set1C := intro 0xCB 2 rfl rfl rfl rfl rfl
theorem set1D : Statement .set1D := intro 0xCB 2 rfl rfl rfl rfl rfl
theorem set1E : Statement .set1E := intro 0xCB 2 rfl rfl rfl rfl rfl
theorem set1H : Statement .set1H := intro 0xCB 2 rfl rfl rfl rfl rfl
theorem set1L : Statement .set1L := intro 0xCB 2 rfl rfl rfl rfl rfl
theorem set1MemHl : Statement .set1MemHl := intro 0xCB 2 rfl rfl rfl rfl rfl
theorem set1A : Statement .set1A := intro 0xCB 2 rfl rfl rfl rfl rfl
theorem set2B : Statement .set2B := intro 0xCB 2 rfl rfl rfl rfl rfl
theorem set2C : Statement .set2C := intro 0xCB 2 rfl rfl rfl rfl rfl
theorem set2D : Statement .set2D := intro 0xCB 2 rfl rfl rfl rfl rfl
theorem set2E : Statement .set2E := intro 0xCB 2 rfl rfl rfl rfl rfl
theorem set2H : Statement .set2H := intro 0xCB 2 rfl rfl rfl rfl rfl
theorem set2L : Statement .set2L := intro 0xCB 2 rfl rfl rfl rfl rfl
theorem set2MemHl : Statement .set2MemHl := intro 0xCB 2 rfl rfl rfl rfl rfl
theorem set2A : Statement .set2A := intro 0xCB 2 rfl rfl rfl rfl rfl
theorem set3B : Statement .set3B := intro 0xCB 2 rfl rfl rfl rfl rfl
theorem set3C : Statement .set3C := intro 0xCB 2 rfl rfl rfl rfl rfl
theorem set3D : Statement .set3D := intro 0xCB 2 rfl rfl rfl rfl rfl
theorem set3E : Statement .set3E := intro 0xCB 2 rfl rfl rfl rfl rfl
theorem set3H : Statement .set3H := intro 0xCB 2 rfl rfl rfl rfl rfl
theorem set3L : Statement .set3L := intro 0xCB 2 rfl rfl rfl rfl rfl
theorem set3MemHl : Statement .set3MemHl := intro 0xCB 2 rfl rfl rfl rfl rfl
theorem set3A : Statement .set3A := intro 0xCB 2 rfl rfl rfl rfl rfl
theorem set4B : Statement .set4B := intro 0xCB 2 rfl rfl rfl rfl rfl
theorem set4C : Statement .set4C := intro 0xCB 2 rfl rfl rfl rfl rfl
theorem set4D : Statement .set4D := intro 0xCB 2 rfl rfl rfl rfl rfl
theorem set4E : Statement .set4E := intro 0xCB 2 rfl rfl rfl rfl rfl
theorem set4H : Statement .set4H := intro 0xCB 2 rfl rfl rfl rfl rfl
theorem set4L : Statement .set4L := intro 0xCB 2 rfl rfl rfl rfl rfl
theorem set4MemHl : Statement .set4MemHl := intro 0xCB 2 rfl rfl rfl rfl rfl
theorem set4A : Statement .set4A := intro 0xCB 2 rfl rfl rfl rfl rfl
theorem set5B : Statement .set5B := intro 0xCB 2 rfl rfl rfl rfl rfl
theorem set5C : Statement .set5C := intro 0xCB 2 rfl rfl rfl rfl rfl
theorem set5D : Statement .set5D := intro 0xCB 2 rfl rfl rfl rfl rfl
theorem set5E : Statement .set5E := intro 0xCB 2 rfl rfl rfl rfl rfl
theorem set5H : Statement .set5H := intro 0xCB 2 rfl rfl rfl rfl rfl
theorem set5L : Statement .set5L := intro 0xCB 2 rfl rfl rfl rfl rfl
theorem set5MemHl : Statement .set5MemHl := intro 0xCB 2 rfl rfl rfl rfl rfl
theorem set5A : Statement .set5A := intro 0xCB 2 rfl rfl rfl rfl rfl
theorem set6B : Statement .set6B := intro 0xCB 2 rfl rfl rfl rfl rfl
theorem set6C : Statement .set6C := intro 0xCB 2 rfl rfl rfl rfl rfl
theorem set6D : Statement .set6D := intro 0xCB 2 rfl rfl rfl rfl rfl
theorem set6E : Statement .set6E := intro 0xCB 2 rfl rfl rfl rfl rfl
theorem set6H : Statement .set6H := intro 0xCB 2 rfl rfl rfl rfl rfl
theorem set6L : Statement .set6L := intro 0xCB 2 rfl rfl rfl rfl rfl
theorem set6MemHl : Statement .set6MemHl := intro 0xCB 2 rfl rfl rfl rfl rfl
theorem set6A : Statement .set6A := intro 0xCB 2 rfl rfl rfl rfl rfl
theorem set7B : Statement .set7B := intro 0xCB 2 rfl rfl rfl rfl rfl
theorem set7C : Statement .set7C := intro 0xCB 2 rfl rfl rfl rfl rfl
theorem set7D : Statement .set7D := intro 0xCB 2 rfl rfl rfl rfl rfl
theorem set7E : Statement .set7E := intro 0xCB 2 rfl rfl rfl rfl rfl
theorem set7H : Statement .set7H := intro 0xCB 2 rfl rfl rfl rfl rfl
theorem set7L : Statement .set7L := intro 0xCB 2 rfl rfl rfl rfl rfl
theorem set7MemHl : Statement .set7MemHl := intro 0xCB 2 rfl rfl rfl rfl rfl
theorem set7A : Statement .set7A := intro 0xCB 2 rfl rfl rfl rfl rfl

end Sys2Proof.Laws.Encoded
end

