-- ==== Sys2Proof/Laws/Run.lean ====
section
/-! SUPPORT. The end of a run (spec/70_reset_and_hazards.md R740): what ends at once, what ends one step later, that a run has at
most one end, and that `State.firstEnd` computes it. -/

namespace Sys2Proof.Machine

/-- A step that takes place, then `n` more. -/
theorem run_of_step (M : Host.Core) (n : Nat) {s u : M.State} (h : M.step s = .next u) : M.run (n + 1) s = M.run n u := by
  rw [Host.Core.run, h]

/-- What `n + 1` steps that take place begin with. -/
theorem step_of_run (M : Host.Core) {n : Nat} {s t : M.State} (h : M.run (n + 1) s = .next t) :
    ∃ u, M.step s = .next u ∧ M.run n u = .next t := by
  rw [Host.Core.run] at h
  cases hs : M.step s with
  | next u => rw [hs] at h; exact ⟨u, rfl, h⟩
  | fault r => rw [hs] at h; cases h
  | refused r => rw [hs] at h; cases h

theorem run_succ (n : Nat) {s u : State} (h : step s = .next u) :
    Host.Core.run Sys2Proof.core (n + 1) s = Host.Core.run Sys2Proof.core n u :=
  run_of_step Sys2Proof.core n h

theorem run_succ_next {n : Nat} {s t : State} (h : Host.Core.run Sys2Proof.core (n + 1) s = .next t) :
    ∃ u, step s = .next u ∧ Host.Core.run Sys2Proof.core n u = .next t :=
  step_of_run Sys2Proof.core h

theorem State.endsAt_zero {s t : State} {e : Word} : s.EndsAt e 0 t ↔ t = s ∧ s.AtEnd e := by
  constructor
  · rintro ⟨h, ha, -⟩
    cases h
    exact ⟨rfl, ha⟩
  · rintro ⟨rfl, ha⟩
    exact ⟨rfl, ha, fun k hk => absurd hk (Nat.not_lt_zero k)⟩

theorem State.endsAt_succ {s t : State} {e : Word} {n : Nat} :
    s.EndsAt e (n + 1) t ↔ ¬ s.AtEnd e ∧ ∃ u, step s = .next u ∧ u.EndsAt e n t := by
  constructor
  · rintro ⟨h, ha, hf⟩
    obtain ⟨u, hu, hr⟩ := run_succ_next h
    exact ⟨hf 0 n.succ_pos s rfl, u, hu, hr, ha, fun k hk v hv =>
      hf (k + 1) (Nat.succ_lt_succ hk) v ((run_succ k hu).trans hv)⟩
  · rintro ⟨hs, u, hu, hr, ha, hf⟩
    refine ⟨(run_succ n hu).trans hr, ha, fun k hk v hv => ?_⟩
    cases k with
    | zero => cases hv; exact hs
    | succ k => exact hf k (Nat.lt_of_succ_lt_succ hk) v ((run_succ k hu).symm.trans hv)

/-- A run has at most one end. -/
theorem State.EndsAt.unique {s t u : State} {e : Word} {m n : Nat} (h : s.EndsAt e m t) (k : s.EndsAt e n u) :
    m = n ∧ t = u := by
  rcases Nat.lt_trichotomy m n with hlt | rfl | hgt
  · exact absurd h.2.1 (k.2.2 m hlt t h.1)
  · exact ⟨rfl, by have := h.1.symm.trans k.1; cases this; rfl⟩
  · exact absurd k.2.1 (h.2.2 n hgt u k.1)

/-- `State.firstEnd` answers the end of the run, if it lies within the fuel. -/
theorem State.firstEnd_eq_some {e : Word} {fuel : Nat} {s t : State} :
    State.firstEnd e fuel s = some t ↔ ∃ n ≤ fuel, s.EndsAt e n t := by
  induction fuel generalizing s with
  | zero =>
    unfold State.firstEnd
    constructor
    · intro h
      split at h
      · cases h; exact ⟨0, Nat.le_refl 0, State.endsAt_zero.2 ⟨rfl, ‹_›⟩⟩
      · cases h
    · rintro ⟨n, hn, h⟩
      cases Nat.le_zero.1 hn
      obtain ⟨rfl, ha⟩ := State.endsAt_zero.1 h
      exact if_pos ha
  | succ k ih =>
    unfold State.firstEnd
    by_cases ha : s.AtEnd e
    · rw [if_pos ha]
      constructor
      · intro h; cases h; exact ⟨0, Nat.zero_le _, State.endsAt_zero.2 ⟨rfl, ha⟩⟩
      · rintro ⟨n, -, h⟩
        exact congrArg some (State.EndsAt.unique (State.endsAt_zero.2 ⟨rfl, ha⟩) h).2
    · rw [if_neg ha]
      constructor
      · intro h
        cases hs : step s with
        | next u =>
          simp only [hs] at h
          obtain ⟨n, hn, he⟩ := ih.1 h
          exact ⟨n + 1, Nat.succ_le_succ hn, State.endsAt_succ.2 ⟨ha, u, hs, he⟩⟩
        | fault r => simp only [hs] at h; cases h
        | refused r => simp only [hs] at h; cases h
      · rintro ⟨n, hn, he⟩
        cases n with
        | zero => exact absurd (State.endsAt_zero.1 he).2 ha
        | succ n =>
          obtain ⟨-, u, hu, hr⟩ := State.endsAt_succ.1 he
          simp only [hu]
          exact ih.2 ⟨n, Nat.le_of_succ_le_succ hn, hr⟩

end Sys2Proof.Machine
end

