-- ==== Sys2Proof/Tests/Slice0.lean ====
section
/-! SUPPORT. Tests. Every expected value comes from the spec: the opcode maps R161 and R162, and the vectors V1 to V22 of
spec/95_test_vectors.md (cited at each test). The last part shows, for each statement of Obligations.lean that has hypotheses,
concrete data that meets them. -/

namespace Sys2Proof.Tests

-- Every proof is elaborated in the file's own thread: hundreds of small theorems would otherwise each start one.
set_option Elab.async false

open Sys2Proof Sys2Proof.Machine

/-! ### Well-formedness -/

/-- A launch request that fails no check. -/
def goodLaunch : LaunchRequest :=
  { kind := .supported .mbc1, cart := [], fixedBankLengths := [0x4000, 0x4000], romBanks := ⟨4, by decide⟩, ramBanks := 1,
    hasRam := true, boot := none, joypad := JoypadParam.standard, profile := .postBoot }

theorem test_wf_launch_good : goodLaunch.wf = true := by decide

/-- A kind that is neither ROM-only nor MBC1 (R10): cartridge-type byte 0x05. -/
theorem test_wf_unsupported_kind :
    LaunchRequest.wf { goodLaunch with kind := .unsupported 0x05 } = false ∧
      LaunchRequest.problem { goodLaunch with kind := .unsupported 0x05 } = some (.unsupportedCartridge 0x05) := by
  decide

/-- A fixed bank of one byte more than 0x4000 (R10). -/
theorem test_wf_oversized_bank :
    LaunchRequest.wf { goodLaunch with fixedBankLengths := [0x4000, 0x4001] } = false ∧
      LaunchRequest.problem { goodLaunch with fixedBankLengths := [0x4000, 0x4001] } = some (.oversizedBank 0x4001) := by
  decide

/-- Profile BOOT without a boot image (R700). -/
theorem test_wf_boot_missing :
    LaunchRequest.wf { goodLaunch with profile := .boot } = false ∧
      LaunchRequest.problem { goodLaunch with profile := .boot } = some .bootImageMissing := by
  decide

/-- An instruction's encoding has 1 to 3 bytes (R151): one of each length. -/
theorem test_wf_instr : Instr.nop.wf = true ∧ (Instr.jr 0xFE).wf = true ∧ (Instr.callNn 0x1234).wf = true := by decide

/-! ### Decoding: every cell of the two opcode maps -/

/-- The instruction a word is, the word being all of it. -/
def reads (bs : List Byte) : Option Instr :=
  match decode bs with
  | .ok (i, []) => some i
  | _ => none

/-- The instructions of a list of words; empty as soon as one is refused. -/
def all (ws : List (List Byte)) : List Instr :=
  ws.filterMap reads

/-- What has fewer bytes than its first byte asks for is rejected by name (R151). -/
theorem test_decode_truncated :
    decode [] = .error .noBytes ∧ decode [0xC3, 0x50] = .error (.truncated 0xC3 2 3) ∧
      decode [0xCB] = .error (.truncated 0xCB 1 2) := ⟨rfl, rfl, rfl⟩

/-- The table's numbering (log entry 7): LD BC,nn with its operand above the opcode, a CB row with 0xCB in bits 15 to 8. -/
theorem test_decode_table_word :
    decodeTableWord 8 0x00 = some .nop ∧ decodeTableWord 24 0x123401 = some (.ldBcNn 0x1234) ∧
      decodeTableWord 16 0xCB7C = some .bit7H := by
  decide

/-- R161, row 0x. -/
theorem test_decode_row_0 :
    all
      [[0x00], [0x01, 0x34, 0x12], [0x02], [0x03], [0x04], [0x05], [0x06, 0xFE], [0x07],
        [0x08, 0x34, 0x12], [0x09], [0x0A], [0x0B], [0x0C], [0x0D], [0x0E, 0xFE], [0x0F]] =
      [.nop, .ldBcNn 0x1234, .ldMemBcA, .incBc, .incB, .decB, .ldBN 0xFE, .rlca,
        .ldMemNnSp 0x1234, .addHlBc, .ldAMemBc, .decBc, .incC, .decC, .ldCN 0xFE, .rrca] := by
  decide

/-- R161, row 1x. -/
theorem test_decode_row_1 :
    all
      [[0x10, 0x77], [0x11, 0x34, 0x12], [0x12], [0x13], [0x14], [0x15], [0x16, 0xFE], [0x17],
        [0x18, 0xFE], [0x19], [0x1A], [0x1B], [0x1C], [0x1D], [0x1E, 0xFE], [0x1F]] =
      [.stop, .ldDeNn 0x1234, .ldMemDeA, .incDe, .incD, .decD, .ldDN 0xFE, .rla,
        .jr 0xFE, .addHlDe, .ldAMemDe, .decDe, .incE, .decE, .ldEN 0xFE, .rra] := by
  decide

/-- R161, row 2x. -/
theorem test_decode_row_2 :
    all
      [[0x20, 0xFE], [0x21, 0x34, 0x12], [0x22], [0x23], [0x24], [0x25], [0x26, 0xFE], [0x27],
        [0x28, 0xFE], [0x29], [0x2A], [0x2B], [0x2C], [0x2D], [0x2E, 0xFE], [0x2F]] =
      [.jrNz 0xFE, .ldHlNn 0x1234, .ldMemHlIncA, .incHl, .incH, .decH, .ldHN 0xFE, .daa,
        .jrZ 0xFE, .addHlHl, .ldAMemHlInc, .decHl, .incL, .decL, .ldLN 0xFE, .cpl] := by
  decide

/-- R161, row 3x. -/
theorem test_decode_row_3 :
    all
      [[0x30, 0xFE], [0x31, 0x34, 0x12], [0x32], [0x33], [0x34], [0x35], [0x36, 0xFE], [0x37],
        [0x38, 0xFE], [0x39], [0x3A], [0x3B], [0x3C], [0x3D], [0x3E, 0xFE], [0x3F]] =
      [.jrNc 0xFE, .ldSpNn 0x1234, .ldMemHlDecA, .incSp, .incMemHl, .decMemHl, .ldMemHlN 0xFE, .scf,
        .jrC 0xFE, .addHlSp, .ldAMemHlDec, .decSp, .incA, .decA, .ldAN 0xFE, .ccf] := by
  decide

/-- R161, row 4x. -/
theorem test_decode_row_4 :
    all
      [[0x40], [0x41], [0x42], [0x43], [0x44], [0x45], [0x46], [0x47],
        [0x48], [0x49], [0x4A], [0x4B], [0x4C], [0x4D], [0x4E], [0x4F]] =
      [.ldBB, .ldBC, .ldBD, .ldBE, .ldBH, .ldBL, .ldBMemHl, .ldBA,
        .ldCB, .ldCC, .ldCD, .ldCE, .ldCH, .ldCL, .ldCMemHl, .ldCA] := by
  decide

/-- R161, row 5x. -/
theorem test_decode_row_5 :
    all
      [[0x50], [0x51], [0x52], [0x53], [0x54], [0x55], [0x56], [0x57],
        [0x58], [0x59], [0x5A], [0x5B], [0x5C], [0x5D], [0x5E], [0x5F]] =
      [.ldDB, .ldDC, .ldDD, .ldDE, .ldDH, .ldDL, .ldDMemHl, .ldDA,
        .ldEB, .ldEC, .ldED, .ldEE, .ldEH, .ldEL, .ldEMemHl, .ldEA] := by
  decide

/-- R161, row 6x. -/
theorem test_decode_row_6 :
    all
      [[0x60], [0x61], [0x62], [0x63], [0x64], [0x65], [0x66], [0x67],
        [0x68], [0x69], [0x6A], [0x6B], [0x6C], [0x6D], [0x6E], [0x6F]] =
      [.ldHB, .ldHC, .ldHD, .ldHE, .ldHH, .ldHL, .ldHMemHl, .ldHA,
        .ldLB, .ldLC, .ldLD, .ldLE, .ldLH, .ldLL, .ldLMemHl, .ldLA] := by
  decide

/-- R161, row 7x. -/
theorem test_decode_row_7 :
    all
      [[0x70], [0x71], [0x72], [0x73], [0x74], [0x75], [0x76], [0x77],
        [0x78], [0x79], [0x7A], [0x7B], [0x7C], [0x7D], [0x7E], [0x7F]] =
      [.ldMemHlB, .ldMemHlC, .ldMemHlD, .ldMemHlE, .ldMemHlH, .ldMemHlL, .halt, .ldMemHlA,
        .ldAB, .ldAC, .ldAD, .ldAE, .ldAH, .ldAL, .ldAMemHl, .ldAA] := by
  decide

/-- R161, row 8x. -/
theorem test_decode_row_8 :
    all
      [[0x80], [0x81], [0x82], [0x83], [0x84], [0x85], [0x86], [0x87],
        [0x88], [0x89], [0x8A], [0x8B], [0x8C], [0x8D], [0x8E], [0x8F]] =
      [.addAB, .addAC, .addAD, .addAE, .addAH, .addAL, .addAMemHl, .addAA,
        .adcAB, .adcAC, .adcAD, .adcAE, .adcAH, .adcAL, .adcAMemHl, .adcAA] := by
  decide

/-- R161, row 9x. -/
theorem test_decode_row_9 :
    all
      [[0x90], [0x91], [0x92], [0x93], [0x94], [0x95], [0x96], [0x97],
        [0x98], [0x99], [0x9A], [0x9B], [0x9C], [0x9D], [0x9E], [0x9F]] =
      [.subB, .subC, .subD, .subE, .subH, .subL, .subMemHl, .subA,
        .sbcAB, .sbcAC, .sbcAD, .sbcAE, .sbcAH, .sbcAL, .sbcAMemHl, .sbcAA] := by
  decide

/-- R161, row Ax. -/
theorem test_decode_row_a :
    all
      [[0xA0], [0xA1], [0xA2], [0xA3], [0xA4], [0xA5], [0xA6], [0xA7],
        [0xA8], [0xA9], [0xAA], [0xAB], [0xAC], [0xAD], [0xAE], [0xAF]] =
      [.andB, .andC, .andD, .andE, .andH, .andL, .andMemHl, .andA,
        .xorB, .xorC, .xorD, .xorE, .xorH, .xorL, .xorMemHl, .xorA] := by
  decide

/-- R161, row Bx. -/
theorem test_decode_row_b :
    all
      [[0xB0], [0xB1], [0xB2], [0xB3], [0xB4], [0xB5], [0xB6], [0xB7],
        [0xB8], [0xB9], [0xBA], [0xBB], [0xBC], [0xBD], [0xBE], [0xBF]] =
      [.orB, .orC, .orD, .orE, .orH, .orL, .orMemHl, .orA,
        .cpB, .cpC, .cpD, .cpE, .cpH, .cpL, .cpMemHl, .cpA] := by
  decide

/-- R161, row Cx. -/
theorem test_decode_row_c :
    all
      [[0xC0], [0xC1], [0xC2, 0x34, 0x12], [0xC3, 0x34, 0x12], [0xC4, 0x34, 0x12], [0xC5], [0xC6, 0xFE], [0xC7],
        [0xC8], [0xC9], [0xCA, 0x34, 0x12], [0xCC, 0x34, 0x12], [0xCD, 0x34, 0x12], [0xCE, 0xFE], [0xCF]] =
      [.retNz, .popBc, .jpNzNn 0x1234, .jpNn 0x1234, .callNzNn 0x1234, .pushBc, .addAN 0xFE, .rst00,
        .retZ, .ret, .jpZNn 0x1234, .callZNn 0x1234, .callNn 0x1234, .adcAN 0xFE, .rst08] := by
  decide

/-- R161, row Dx. -/
theorem test_decode_row_d :
    all
      [[0xD0], [0xD1], [0xD2, 0x34, 0x12], [0xD3], [0xD4, 0x34, 0x12], [0xD5], [0xD6, 0xFE], [0xD7],
        [0xD8], [0xD9], [0xDA, 0x34, 0x12], [0xDB], [0xDC, 0x34, 0x12], [0xDD], [0xDE, 0xFE], [0xDF]] =
      [.retNc, .popDe, .jpNcNn 0x1234, .illegalD3, .callNcNn 0x1234, .pushDe, .subN 0xFE, .rst10,
        .retC, .reti, .jpCNn 0x1234, .illegalDB, .callCNn 0x1234, .illegalDD, .sbcAN 0xFE, .rst18] := by
  decide

/-- R161, row Ex. -/
theorem test_decode_row_e :
    all
      [[0xE0, 0xFE], [0xE1], [0xE2], [0xE3], [0xE4], [0xE5], [0xE6, 0xFE], [0xE7],
        [0xE8, 0xFE], [0xE9], [0xEA, 0x34, 0x12], [0xEB], [0xEC], [0xED], [0xEE, 0xFE], [0xEF]] =
      [.ldhMemNA 0xFE, .popHl, .ldhMemCA, .illegalE3, .illegalE4, .pushHl, .andN 0xFE, .rst20,
        .addSpE 0xFE, .jpHl, .ldMemNnA 0x1234, .illegalEB, .illegalEC, .illegalED, .xorN 0xFE, .rst28] := by
  decide

/-- R161, row Fx. -/
theorem test_decode_row_f :
    all
      [[0xF0, 0xFE], [0xF1], [0xF2], [0xF3], [0xF4], [0xF5], [0xF6, 0xFE], [0xF7],
        [0xF8, 0xFE], [0xF9], [0xFA, 0x34, 0x12], [0xFB], [0xFC], [0xFD], [0xFE, 0xFE], [0xFF]] =
      [.ldhAMemN 0xFE, .popAf, .ldhAMemC, .di, .illegalF4, .pushAf, .orN 0xFE, .rst30,
        .ldHlSpE 0xFE, .ldSpHl, .ldAMemNn 0x1234, .ei, .illegalFC, .illegalFD, .cpN 0xFE, .rst38] := by
  decide

/-- R162, second bytes 0x00 to 0x0F. -/
theorem test_decode_cb_row_0 :
    all
      [[0xCB, 0x00], [0xCB, 0x01], [0xCB, 0x02], [0xCB, 0x03], [0xCB, 0x04], [0xCB, 0x05], [0xCB, 0x06], [0xCB, 0x07],
        [0xCB, 0x08], [0xCB, 0x09], [0xCB, 0x0A], [0xCB, 0x0B], [0xCB, 0x0C], [0xCB, 0x0D], [0xCB, 0x0E], [0xCB, 0x0F]] =
      [.rlcB, .rlcC, .rlcD, .rlcE, .rlcH, .rlcL, .rlcMemHl, .rlcA,
        .rrcB, .rrcC, .rrcD, .rrcE, .rrcH, .rrcL, .rrcMemHl, .rrcA] := by
  decide

/-- R162, second bytes 0x10 to 0x1F. -/
theorem test_decode_cb_row_1 :
    all
      [[0xCB, 0x10], [0xCB, 0x11], [0xCB, 0x12], [0xCB, 0x13], [0xCB, 0x14], [0xCB, 0x15], [0xCB, 0x16], [0xCB, 0x17],
        [0xCB, 0x18], [0xCB, 0x19], [0xCB, 0x1A], [0xCB, 0x1B], [0xCB, 0x1C], [0xCB, 0x1D], [0xCB, 0x1E], [0xCB, 0x1F]] =
      [.rlB, .rlC, .rlD, .rlE, .rlH, .rlL, .rlMemHl, .rlA,
        .rrB, .rrC, .rrD, .rrE, .rrH, .rrL, .rrMemHl, .rrA] := by
  decide

/-- R162, second bytes 0x20 to 0x2F. -/
theorem test_decode_cb_row_2 :
    all
      [[0xCB, 0x20], [0xCB, 0x21], [0xCB, 0x22], [0xCB, 0x23], [0xCB, 0x24], [0xCB, 0x25], [0xCB, 0x26], [0xCB, 0x27],
        [0xCB, 0x28], [0xCB, 0x29], [0xCB, 0x2A], [0xCB, 0x2B], [0xCB, 0x2C], [0xCB, 0x2D], [0xCB, 0x2E], [0xCB, 0x2F]] =
      [.slaB, .slaC, .slaD, .slaE, .slaH, .slaL, .slaMemHl, .slaA,
        .sraB, .sraC, .sraD, .sraE, .sraH, .sraL, .sraMemHl, .sraA] := by
  decide

/-- R162, second bytes 0x30 to 0x3F. -/
theorem test_decode_cb_row_3 :
    all
      [[0xCB, 0x30], [0xCB, 0x31], [0xCB, 0x32], [0xCB, 0x33], [0xCB, 0x34], [0xCB, 0x35], [0xCB, 0x36], [0xCB, 0x37],
        [0xCB, 0x38], [0xCB, 0x39], [0xCB, 0x3A], [0xCB, 0x3B], [0xCB, 0x3C], [0xCB, 0x3D], [0xCB, 0x3E], [0xCB, 0x3F]] =
      [.swapB, .swapC, .swapD, .swapE, .swapH, .swapL, .swapMemHl, .swapA,
        .srlB, .srlC, .srlD, .srlE, .srlH, .srlL, .srlMemHl, .srlA] := by
  decide

/-- R162, second bytes 0x40 to 0x4F. -/
theorem test_decode_cb_row_4 :
    all
      [[0xCB, 0x40], [0xCB, 0x41], [0xCB, 0x42], [0xCB, 0x43], [0xCB, 0x44], [0xCB, 0x45], [0xCB, 0x46], [0xCB, 0x47],
        [0xCB, 0x48], [0xCB, 0x49], [0xCB, 0x4A], [0xCB, 0x4B], [0xCB, 0x4C], [0xCB, 0x4D], [0xCB, 0x4E], [0xCB, 0x4F]] =
      [.bit0B, .bit0C, .bit0D, .bit0E, .bit0H, .bit0L, .bit0MemHl, .bit0A,
        .bit1B, .bit1C, .bit1D, .bit1E, .bit1H, .bit1L, .bit1MemHl, .bit1A] := by
  decide

/-- R162, second bytes 0x50 to 0x5F. -/
theorem test_decode_cb_row_5 :
    all
      [[0xCB, 0x50], [0xCB, 0x51], [0xCB, 0x52], [0xCB, 0x53], [0xCB, 0x54], [0xCB, 0x55], [0xCB, 0x56], [0xCB, 0x57],
        [0xCB, 0x58], [0xCB, 0x59], [0xCB, 0x5A], [0xCB, 0x5B], [0xCB, 0x5C], [0xCB, 0x5D], [0xCB, 0x5E], [0xCB, 0x5F]] =
      [.bit2B, .bit2C, .bit2D, .bit2E, .bit2H, .bit2L, .bit2MemHl, .bit2A,
        .bit3B, .bit3C, .bit3D, .bit3E, .bit3H, .bit3L, .bit3MemHl, .bit3A] := by
  decide

/-- R162, second bytes 0x60 to 0x6F. -/
theorem test_decode_cb_row_6 :
    all
      [[0xCB, 0x60], [0xCB, 0x61], [0xCB, 0x62], [0xCB, 0x63], [0xCB, 0x64], [0xCB, 0x65], [0xCB, 0x66], [0xCB, 0x67],
        [0xCB, 0x68], [0xCB, 0x69], [0xCB, 0x6A], [0xCB, 0x6B], [0xCB, 0x6C], [0xCB, 0x6D], [0xCB, 0x6E], [0xCB, 0x6F]] =
      [.bit4B, .bit4C, .bit4D, .bit4E, .bit4H, .bit4L, .bit4MemHl, .bit4A,
        .bit5B, .bit5C, .bit5D, .bit5E, .bit5H, .bit5L, .bit5MemHl, .bit5A] := by
  decide

/-- R162, second bytes 0x70 to 0x7F. -/
theorem test_decode_cb_row_7 :
    all
      [[0xCB, 0x70], [0xCB, 0x71], [0xCB, 0x72], [0xCB, 0x73], [0xCB, 0x74], [0xCB, 0x75], [0xCB, 0x76], [0xCB, 0x77],
        [0xCB, 0x78], [0xCB, 0x79], [0xCB, 0x7A], [0xCB, 0x7B], [0xCB, 0x7C], [0xCB, 0x7D], [0xCB, 0x7E], [0xCB, 0x7F]] =
      [.bit6B, .bit6C, .bit6D, .bit6E, .bit6H, .bit6L, .bit6MemHl, .bit6A,
        .bit7B, .bit7C, .bit7D, .bit7E, .bit7H, .bit7L, .bit7MemHl, .bit7A] := by
  decide

/-- R162, second bytes 0x80 to 0x8F. -/
theorem test_decode_cb_row_8 :
    all
      [[0xCB, 0x80], [0xCB, 0x81], [0xCB, 0x82], [0xCB, 0x83], [0xCB, 0x84], [0xCB, 0x85], [0xCB, 0x86], [0xCB, 0x87],
        [0xCB, 0x88], [0xCB, 0x89], [0xCB, 0x8A], [0xCB, 0x8B], [0xCB, 0x8C], [0xCB, 0x8D], [0xCB, 0x8E], [0xCB, 0x8F]] =
      [.res0B, .res0C, .res0D, .res0E, .res0H, .res0L, .res0MemHl, .res0A,
        .res1B, .res1C, .res1D, .res1E, .res1H, .res1L, .res1MemHl, .res1A] := by
  decide

/-- R162, second bytes 0x90 to 0x9F. -/
theorem test_decode_cb_row_9 :
    all
      [[0xCB, 0x90], [0xCB, 0x91], [0xCB, 0x92], [0xCB, 0x93], [0xCB, 0x94], [0xCB, 0x95], [0xCB, 0x96], [0xCB, 0x97],
        [0xCB, 0x98], [0xCB, 0x99], [0xCB, 0x9A], [0xCB, 0x9B], [0xCB, 0x9C], [0xCB, 0x9D], [0xCB, 0x9E], [0xCB, 0x9F]] =
      [.res2B, .res2C, .res2D, .res2E, .res2H, .res2L, .res2MemHl, .res2A,
        .res3B, .res3C, .res3D, .res3E, .res3H, .res3L, .res3MemHl, .res3A] := by
  decide

/-- R162, second bytes 0xA0 to 0xAF. -/
theorem test_decode_cb_row_a :
    all
      [[0xCB, 0xA0], [0xCB, 0xA1], [0xCB, 0xA2], [0xCB, 0xA3], [0xCB, 0xA4], [0xCB, 0xA5], [0xCB, 0xA6], [0xCB, 0xA7],
        [0xCB, 0xA8], [0xCB, 0xA9], [0xCB, 0xAA], [0xCB, 0xAB], [0xCB, 0xAC], [0xCB, 0xAD], [0xCB, 0xAE], [0xCB, 0xAF]] =
      [.res4B, .res4C, .res4D, .res4E, .res4H, .res4L, .res4MemHl, .res4A,
        .res5B, .res5C, .res5D, .res5E, .res5H, .res5L, .res5MemHl, .res5A] := by
  decide

/-- R162, second bytes 0xB0 to 0xBF. -/
theorem test_decode_cb_row_b :
    all
      [[0xCB, 0xB0], [0xCB, 0xB1], [0xCB, 0xB2], [0xCB, 0xB3], [0xCB, 0xB4], [0xCB, 0xB5], [0xCB, 0xB6], [0xCB, 0xB7],
        [0xCB, 0xB8], [0xCB, 0xB9], [0xCB, 0xBA], [0xCB, 0xBB], [0xCB, 0xBC], [0xCB, 0xBD], [0xCB, 0xBE], [0xCB, 0xBF]] =
      [.res6B, .res6C, .res6D, .res6E, .res6H, .res6L, .res6MemHl, .res6A,
        .res7B, .res7C, .res7D, .res7E, .res7H, .res7L, .res7MemHl, .res7A] := by
  decide

/-- R162, second bytes 0xC0 to 0xCF. -/
theorem test_decode_cb_row_c :
    all
      [[0xCB, 0xC0], [0xCB, 0xC1], [0xCB, 0xC2], [0xCB, 0xC3], [0xCB, 0xC4], [0xCB, 0xC5], [0xCB, 0xC6], [0xCB, 0xC7],
        [0xCB, 0xC8], [0xCB, 0xC9], [0xCB, 0xCA], [0xCB, 0xCB], [0xCB, 0xCC], [0xCB, 0xCD], [0xCB, 0xCE], [0xCB, 0xCF]] =
      [.set0B, .set0C, .set0D, .set0E, .set0H, .set0L, .set0MemHl, .set0A,
        .set1B, .set1C, .set1D, .set1E, .set1H, .set1L, .set1MemHl, .set1A] := by
  decide

/-- R162, second bytes 0xD0 to 0xDF. -/
theorem test_decode_cb_row_d :
    all
      [[0xCB, 0xD0], [0xCB, 0xD1], [0xCB, 0xD2], [0xCB, 0xD3], [0xCB, 0xD4], [0xCB, 0xD5], [0xCB, 0xD6], [0xCB, 0xD7],
        [0xCB, 0xD8], [0xCB, 0xD9], [0xCB, 0xDA], [0xCB, 0xDB], [0xCB, 0xDC], [0xCB, 0xDD], [0xCB, 0xDE], [0xCB, 0xDF]] =
      [.set2B, .set2C, .set2D, .set2E, .set2H, .set2L, .set2MemHl, .set2A,
        .set3B, .set3C, .set3D, .set3E, .set3H, .set3L, .set3MemHl, .set3A] := by
  decide

/-- R162, second bytes 0xE0 to 0xEF. -/
theorem test_decode_cb_row_e :
    all
      [[0xCB, 0xE0], [0xCB, 0xE1], [0xCB, 0xE2], [0xCB, 0xE3], [0xCB, 0xE4], [0xCB, 0xE5], [0xCB, 0xE6], [0xCB, 0xE7],
        [0xCB, 0xE8], [0xCB, 0xE9], [0xCB, 0xEA], [0xCB, 0xEB], [0xCB, 0xEC], [0xCB, 0xED], [0xCB, 0xEE], [0xCB, 0xEF]] =
      [.set4B, .set4C, .set4D, .set4E, .set4H, .set4L, .set4MemHl, .set4A,
        .set5B, .set5C, .set5D, .set5E, .set5H, .set5L, .set5MemHl, .set5A] := by
  decide

/-- R162, second bytes 0xF0 to 0xFF. -/
theorem test_decode_cb_row_f :
    all
      [[0xCB, 0xF0], [0xCB, 0xF1], [0xCB, 0xF2], [0xCB, 0xF3], [0xCB, 0xF4], [0xCB, 0xF5], [0xCB, 0xF6], [0xCB, 0xF7],
        [0xCB, 0xF8], [0xCB, 0xF9], [0xCB, 0xFA], [0xCB, 0xFB], [0xCB, 0xFC], [0xCB, 0xFD], [0xCB, 0xFE], [0xCB, 0xFF]] =
      [.set6B, .set6C, .set6D, .set6E, .set6H, .set6L, .set6MemHl, .set6A,
        .set7B, .set7C, .set7D, .set7E, .set7H, .set7L, .set7MemHl, .set7A] := by
  decide
/-! ### One step of each instruction family, from the vectors -/

/-- The registers the CPU vectors start from, but for those a vector names. -/
def g0 : Regs :=
  { a := 0, f := 0, b := 0, c := 0, d := 0, e := 0, h := 0, l := 0, sp := 0xDFF0, pc := 0xC000 }

/-- Profile POST_BOOT with the LCD turned off, the registers `g`, and `code` in WRAM at 0xC000. -/
def machine (code : List Byte) (g : Regs) : State :=
  State.placeAll { (State.postBootProfile Launch.unlisted Init.zero).write 0xFF40 0x11 with regs := g } 0xC000 code

/-- The state after `n` steps that all take place. -/
def after (n : Nat) (s : State) : Option State :=
  match Host.Core.run Sys2Proof.core n s with
  | .next t => some t
  | .fault _ => none
  | .refused _ => none

/-- A, F and the Clock after one step. -/
def accum (s : State) : Option (Byte × Byte × BitVec 64) :=
  (after 1 s).map fun t => (t.regs.a, t.regs.f, t.cycles)

/-- V12: ADD A,B. -/
theorem test_add_a_b_1 :
    accum (machine [0x80] { g0 with a := 0x3A, f := 0x00, b := 0xC6 }) = some (0x00, 0xB0, 4) := by decide +kernel

/-- V12: ADD A,B. -/
theorem test_add_a_b_2 :
    accum (machine [0x80] { g0 with a := 0x0F, f := 0x00, b := 0x01 }) = some (0x10, 0x20, 4) := by decide +kernel

/-- V12: ADC A,B. -/
theorem test_adc_a_b_1 :
    accum (machine [0x88] { g0 with a := 0xE1, f := 0x10, b := 0x0F }) = some (0xF1, 0x20, 4) := by decide +kernel

/-- V12: ADC A,B. -/
theorem test_adc_a_b_2 :
    accum (machine [0x88] { g0 with a := 0x00, f := 0x10, b := 0x0F }) = some (0x10, 0x20, 4) := by decide +kernel

/-- V12: SUB B. -/
theorem test_sub_b_1 :
    accum (machine [0x90] { g0 with a := 0x3E, f := 0x00, b := 0x3E }) = some (0x00, 0xC0, 4) := by decide +kernel

/-- V12: SUB B. -/
theorem test_sub_b_2 :
    accum (machine [0x90] { g0 with a := 0x3E, f := 0x00, b := 0x0F }) = some (0x2F, 0x60, 4) := by decide +kernel

/-- V12: SBC A,B. -/
theorem test_sbc_a_b_1 :
    accum (machine [0x98] { g0 with a := 0x3B, f := 0x10, b := 0x2A }) = some (0x10, 0x40, 4) := by decide +kernel

/-- V12: SBC A,B. -/
theorem test_sbc_a_b_2 :
    accum (machine [0x98] { g0 with a := 0x00, f := 0x10, b := 0x00 }) = some (0xFF, 0x70, 4) := by decide +kernel

/-- V12: AND B. -/
theorem test_and_b_1 :
    accum (machine [0xA0] { g0 with a := 0x5A, f := 0x00, b := 0x3F }) = some (0x1A, 0x20, 4) := by decide +kernel

/-- V12: AND B. -/
theorem test_and_b_2 :
    accum (machine [0xA0] { g0 with a := 0x5A, f := 0x00, b := 0xA5 }) = some (0x00, 0xA0, 4) := by decide +kernel

/-- V12: XOR A. -/
theorem test_xor_a_1 :
    accum (machine [0xAF] { g0 with a := 0x5A, f := 0xF0 }) = some (0x00, 0x80, 4) := by decide +kernel

/-- V12: OR B. -/
theorem test_or_b_1 :
    accum (machine [0xB0] { g0 with a := 0x00, f := 0x00, b := 0x00 }) = some (0x00, 0x80, 4) := by decide +kernel

/-- V12: OR B. -/
theorem test_or_b_2 :
    accum (machine [0xB0] { g0 with a := 0x5A, f := 0x00, b := 0x0F }) = some (0x5F, 0x00, 4) := by decide +kernel

/-- V12: CP B. -/
theorem test_cp_b_1 :
    accum (machine [0xB8] { g0 with a := 0x3C, f := 0x00, b := 0x2F }) = some (0x3C, 0x60, 4) := by decide +kernel

/-- V12: CP B. -/
theorem test_cp_b_2 :
    accum (machine [0xB8] { g0 with a := 0x3C, f := 0x00, b := 0x3C }) = some (0x3C, 0xC0, 4) := by decide +kernel

/-- V12: ADD A,n. -/
theorem test_add_a_n_1 :
    accum (machine [0xC6, 0xFF] { g0 with a := 0x01, f := 0x00 }) = some (0x00, 0xB0, 8) := by decide +kernel

/-- V12: SUB n. -/
theorem test_sub_n_1 :
    accum (machine [0xD6, 0x01] { g0 with a := 0x00, f := 0x00 }) = some (0xFF, 0x70, 8) := by decide +kernel

/-- V12: CP n. -/
theorem test_cp_n_1 :
    accum (machine [0xFE, 0x90] { g0 with a := 0x90, f := 0x00 }) = some (0x90, 0xC0, 8) := by decide +kernel

/-- V12: INC A. -/
theorem test_inc_a_1 :
    accum (machine [0x3C] { g0 with a := 0x0F, f := 0x10 }) = some (0x10, 0x30, 4) := by decide +kernel

/-- V12: INC A. -/
theorem test_inc_a_2 :
    accum (machine [0x3C] { g0 with a := 0xFF, f := 0x00 }) = some (0x00, 0xA0, 4) := by decide +kernel

/-- V12: DEC A. -/
theorem test_dec_a_1 :
    accum (machine [0x3D] { g0 with a := 0x10, f := 0x10 }) = some (0x0F, 0x70, 4) := by decide +kernel

/-- V12: DEC A. -/
theorem test_dec_a_2 :
    accum (machine [0x3D] { g0 with a := 0x01, f := 0x00 }) = some (0x00, 0xC0, 4) := by decide +kernel

/-- V12: CPL. -/
theorem test_cpl_1 :
    accum (machine [0x2F] { g0 with a := 0x35, f := 0x00 }) = some (0xCA, 0x60, 4) := by decide +kernel

/-- V12: SCF. -/
theorem test_scf_1 :
    accum (machine [0x37] { g0 with a := 0x00, f := 0xE0 }) = some (0x00, 0x90, 4) := by decide +kernel

/-- V12: CCF. -/
theorem test_ccf_1 :
    accum (machine [0x3F] { g0 with a := 0x00, f := 0x90 }) = some (0x00, 0x80, 4) := by decide +kernel

/-- V12: CCF. -/
theorem test_ccf_2 :
    accum (machine [0x3F] { g0 with a := 0x00, f := 0x80 }) = some (0x00, 0x90, 4) := by decide +kernel

/-- V12: DAA (after ADD 0x45+0x38). -/
theorem test_daa_1 :
    accum (machine [0x27] { g0 with a := 0x7D, f := 0x00 }) = some (0x83, 0x00, 4) := by decide +kernel

/-- V12: DAA (after ADD 0x99+0x01). -/
theorem test_daa_2 :
    accum (machine [0x27] { g0 with a := 0x9A, f := 0x00 }) = some (0x00, 0x90, 4) := by decide +kernel

/-- V15: RLCA. -/
theorem test_rlca_1 :
    accum (machine [0x07] { g0 with a := 0x85, f := 0x00 }) = some (0x0B, 0x10, 4) := by decide +kernel

/-- V15: RLCA. -/
theorem test_rlca_2 :
    accum (machine [0x07] { g0 with a := 0x00, f := 0x10 }) = some (0x00, 0x00, 4) := by decide +kernel

/-- V15: RRCA. -/
theorem test_rrca_1 :
    accum (machine [0x0F] { g0 with a := 0x01, f := 0x00 }) = some (0x80, 0x10, 4) := by decide +kernel

/-- V15: RLA. -/
theorem test_rla_1 :
    accum (machine [0x17] { g0 with a := 0x80, f := 0x00 }) = some (0x00, 0x10, 4) := by decide +kernel

/-- V15: RLA. -/
theorem test_rla_2 :
    accum (machine [0x17] { g0 with a := 0x00, f := 0x10 }) = some (0x01, 0x00, 4) := by decide +kernel

/-- V15: RRA. -/
theorem test_rra_1 :
    accum (machine [0x1F] { g0 with a := 0x01, f := 0x00 }) = some (0x00, 0x10, 4) := by decide +kernel

/-- V15: RLC A. -/
theorem test_rlc_a_1 :
    accum (machine [0xCB, 0x07] { g0 with a := 0x00, f := 0x10 }) = some (0x00, 0x80, 8) := by decide +kernel

/-- V15: RLC A. -/
theorem test_rlc_a_2 :
    accum (machine [0xCB, 0x07] { g0 with a := 0x80, f := 0x00 }) = some (0x01, 0x10, 8) := by decide +kernel

/-- V15: RRC A. -/
theorem test_rrc_a_1 :
    accum (machine [0xCB, 0x0F] { g0 with a := 0x01, f := 0x00 }) = some (0x80, 0x10, 8) := by decide +kernel

/-- V15: RL A. -/
theorem test_rl_a_1 :
    accum (machine [0xCB, 0x17] { g0 with a := 0x80, f := 0x00 }) = some (0x00, 0x90, 8) := by decide +kernel

/-- V15: RR A. -/
theorem test_rr_a_1 :
    accum (machine [0xCB, 0x1F] { g0 with a := 0x01, f := 0x00 }) = some (0x00, 0x90, 8) := by decide +kernel

/-- V15: RR A. -/
theorem test_rr_a_2 :
    accum (machine [0xCB, 0x1F] { g0 with a := 0x00, f := 0x10 }) = some (0x80, 0x00, 8) := by decide +kernel

/-- V15: SLA A. -/
theorem test_sla_a_1 :
    accum (machine [0xCB, 0x27] { g0 with a := 0x80, f := 0x00 }) = some (0x00, 0x90, 8) := by decide +kernel

/-- V15: SLA A. -/
theorem test_sla_a_2 :
    accum (machine [0xCB, 0x27] { g0 with a := 0x41, f := 0x10 }) = some (0x82, 0x00, 8) := by decide +kernel

/-- V15: SRA A. -/
theorem test_sra_a_1 :
    accum (machine [0xCB, 0x2F] { g0 with a := 0x81, f := 0x00 }) = some (0xC0, 0x10, 8) := by decide +kernel

/-- V15: SRA A. -/
theorem test_sra_a_2 :
    accum (machine [0xCB, 0x2F] { g0 with a := 0x01, f := 0x00 }) = some (0x00, 0x90, 8) := by decide +kernel

/-- V15: SWAP A. -/
theorem test_swap_a_1 :
    accum (machine [0xCB, 0x37] { g0 with a := 0xF0, f := 0x10 }) = some (0x0F, 0x00, 8) := by decide +kernel

/-- V15: SWAP A. -/
theorem test_swap_a_2 :
    accum (machine [0xCB, 0x37] { g0 with a := 0x00, f := 0x10 }) = some (0x00, 0x80, 8) := by decide +kernel

/-- V15: SRL A. -/
theorem test_srl_a_1 :
    accum (machine [0xCB, 0x3F] { g0 with a := 0x81, f := 0x00 }) = some (0x40, 0x10, 8) := by decide +kernel

/-- V15: SRL A. -/
theorem test_srl_a_2 :
    accum (machine [0xCB, 0x3F] { g0 with a := 0x01, f := 0x00 }) = some (0x00, 0x90, 8) := by decide +kernel

/-- V15: BIT 7,A. -/
theorem test_bit_7_a_1 :
    accum (machine [0xCB, 0x7F] { g0 with a := 0x7F, f := 0x10 }) = some (0x7F, 0xB0, 8) := by decide +kernel

/-- V15: BIT 7,A. -/
theorem test_bit_7_a_2 :
    accum (machine [0xCB, 0x7F] { g0 with a := 0x80, f := 0x00 }) = some (0x80, 0x20, 8) := by decide +kernel

/-- V15: BIT 0,A. -/
theorem test_bit_0_a_1 :
    accum (machine [0xCB, 0x47] { g0 with a := 0x01, f := 0x00 }) = some (0x01, 0x20, 8) := by decide +kernel

/-- V15: RES 0,A. -/
theorem test_res_0_a_1 :
    accum (machine [0xCB, 0x87] { g0 with a := 0xFF, f := 0x10 }) = some (0xFE, 0x10, 8) := by decide +kernel

/-- V15: SET 7,A. -/
theorem test_set_7_a_1 :
    accum (machine [0xCB, 0xFF] { g0 with a := 0x00, f := 0x00 }) = some (0x80, 0x00, 8) := by decide +kernel

/-- V15: RLC (HL). -/
theorem test_rlc_memhl_1 :
    (after 1 ((machine [0xCB, 0x06] { g0 with h := 0xC1, l := 0x00, f := 0x00 }).write 0xC100 0x80)).map (fun t => (t.read 0xC100, t.regs.f, t.cycles)) =
      some (0x01, 0x10, 16) := by decide +kernel

/-- V15: BIT 3,(HL). -/
theorem test_bit_3_memhl_1 :
    (after 1 ((machine [0xCB, 0x5E] { g0 with h := 0xC1, l := 0x00, f := 0x00 }).write 0xC100 0x80)).map (fun t => (t.read 0xC100, t.regs.f, t.cycles)) =
      some (0x80, 0xA0, 12) := by decide +kernel

/-- V15: SET 3,(HL). -/
theorem test_set_3_memhl_1 :
    (after 1 ((machine [0xCB, 0xDE] { g0 with h := 0xC1, l := 0x00, f := 0x00 }).write 0xC100 0x80)).map (fun t => (t.read 0xC100, t.regs.f, t.cycles)) =
      some (0x88, 0x00, 16) := by decide +kernel

/-- V15: SWAP (HL). -/
theorem test_swap_memhl_1 :
    (after 1 ((machine [0xCB, 0x36] { g0 with h := 0xC1, l := 0x00, f := 0x00 }).write 0xC100 0x80)).map (fun t => (t.read 0xC100, t.regs.f, t.cycles)) =
      some (0x08, 0x00, 16) := by decide +kernel

/-- V14: ADD HL,BC. -/
theorem test_add_hl_bc_1 :
    (after 1 (machine [0x09] { g0 with h := 0x0F, l := 0xFF, b := 0x00, c := 0x01, f := 0x80 })).map (fun t => (t.regs.get16 .hl, t.regs.f, t.cycles)) =
      some (0x1000, 0xA0, 8) := by decide +kernel

/-- V14: ADD HL,BC. -/
theorem test_add_hl_bc_2 :
    (after 1 (machine [0x09] { g0 with h := 0xFF, l := 0xFF, b := 0x00, c := 0x01, f := 0x00 })).map (fun t => (t.regs.get16 .hl, t.regs.f, t.cycles)) =
      some (0x0000, 0x30, 8) := by decide +kernel

/-- V14: ADD HL,HL. -/
theorem test_add_hl_hl_1 :
    (after 1 (machine [0x29] { g0 with h := 0x80, l := 0x00, f := 0x00 })).map (fun t => (t.regs.get16 .hl, t.regs.f, t.cycles)) =
      some (0x0000, 0x10, 8) := by decide +kernel

/-- V14: ADD HL,SP. -/
theorem test_add_hl_sp_1 :
    (after 1 (machine [0x39] { g0 with h := 0x12, l := 0x34, sp := 0x0F0F, f := 0x40 })).map (fun t => (t.regs.get16 .hl, t.regs.f, t.cycles)) =
      some (0x2143, 0x20, 8) := by decide +kernel

/-- V14: INC BC. -/
theorem test_inc_bc_1 :
    (after 1 (machine [0x03] { g0 with b := 0xFF, c := 0xFF, f := 0x00 })).map (fun t => (t.regs.get16 .bc, t.regs.f, t.cycles)) =
      some (0x0000, 0x00, 8) := by decide +kernel

/-- V14: DEC DE. -/
theorem test_dec_de_1 :
    (after 1 (machine [0x1B] { g0 with d := 0x00, e := 0x00, f := 0xF0 })).map (fun t => (t.regs.get16 .de, t.regs.f, t.cycles)) =
      some (0xFFFF, 0xF0, 8) := by decide +kernel

/-- V14: INC SP. -/
theorem test_inc_sp_1 :
    (after 1 (machine [0x33] { g0 with sp := 0xFFFF, f := 0x00 })).map (fun t => (t.regs.sp, t.regs.f, t.cycles)) =
      some (0x0000, 0x00, 8) := by decide +kernel

/-- V14: ADD SP,e (e = +1). -/
theorem test_add_sp_e_1 :
    (after 1 (machine [0xE8, 0x01] { g0 with sp := 0x00FF, f := 0xC0 })).map (fun t => (t.regs.sp, t.regs.f, t.cycles)) =
      some (0x0100, 0x30, 16) := by decide +kernel

/-- V14: ADD SP,e (e = -1). -/
theorem test_add_sp_e_2 :
    (after 1 (machine [0xE8, 0xFF] { g0 with sp := 0x0000, f := 0x00 })).map (fun t => (t.regs.sp, t.regs.f, t.cycles)) =
      some (0xFFFF, 0x00, 16) := by decide +kernel

/-- V14: LD HL,SP+e (e = -2). -/
theorem test_ld_hl_sp_e_1 :
    (after 1 (machine [0xF8, 0xFE] { g0 with sp := 0xFFFE, f := 0x80 })).map (fun t => (t.regs.get16 .hl, t.regs.f, t.cycles)) =
      some (0xFFFC, 0x30, 12) := by decide +kernel

/-- V14: LD HL,SP+e (e = +0x7F). -/
theorem test_ld_hl_sp_e_2 :
    (after 1 (machine [0xF8, 0x7F] { g0 with sp := 0x0081, f := 0x00 })).map (fun t => (t.regs.get16 .hl, t.regs.f, t.cycles)) =
      some (0x0100, 0x30, 12) := by decide +kernel

/-- V14: LD SP,HL. -/
theorem test_ld_sp_hl_1 :
    (after 1 (machine [0xF9] { g0 with h := 0xDF, l := 0xF0, f := 0x00 })).map (fun t => (t.regs.sp, t.regs.f, t.cycles)) =
      some (0xDFF0, 0x00, 8) := by decide +kernel
/-! Loads and stores: V13. -/

/-- V13: LD (HL+),A. -/
theorem test_ld_hl_inc_a :
    (after 1 (machine [0x22] { g0 with a := 0x5A, h := 0xC0, l := 0xFF })).map (fun t => (t.read 0xC0FF, t.regs.get16 .hl, t.cycles)) =
      some (0x5A, 0xC100, 8) := by decide +kernel

/-- V13: LD A,(HL-). -/
theorem test_ld_a_hl_dec :
    (after 1 ((machine [0x3A] { g0 with h := 0xC1, l := 0x00 }).write 0xC100 0x77)).map
        (fun t => (t.regs.a, t.regs.get16 .hl, t.cycles)) = some (0x77, 0xC0FF, 8) := by decide +kernel

/-- V13: LD A,(HL+) at 0xFFFF reads IE and wraps HL. -/
theorem test_ld_a_hl_inc :
    (after 1 ((machine [0x2A] { g0 with h := 0xFF, l := 0xFF }).write 0xFFFF 0x1F)).map
        (fun t => (t.regs.a, t.regs.get16 .hl, t.cycles)) = some (0x1F, 0x0000, 8) := by decide +kernel

/-- V13: LDH (n),A and LDH A,(n). -/
theorem test_ldh_n :
    (after 1 (machine [0xE0, 0x80] { g0 with a := 0xAB })).map (fun t => (t.read 0xFF80, t.cycles)) = some (0xAB, 12) ∧
      (after 1 ((machine [0xF0, 0x0F] g0).write 0xFF0F 0x05)).map (fun t => (t.regs.a, t.cycles)) = some (0xE5, 12) := by
  decide +kernel

/-- V13: LD (C),A. -/
theorem test_ldh_c :
    (after 1 (machine [0xE2] { g0 with a := 0x12, c := 0x81 })).map (fun t => (t.read 0xFF81, t.cycles)) = some (0x12, 8) := by
  decide +kernel

/-- V13: LD (nn),SP. -/
theorem test_ld_nn_sp :
    (after 1 (machine [0x08, 0x00, 0xC2] { g0 with sp := 0xABCD })).map (fun t => (t.read 0xC200, t.read 0xC201, t.cycles)) =
      some (0xCD, 0xAB, 20) := by decide +kernel

/-- V13: LD (nn),A to the echo of 0xC000. -/
theorem test_ld_nn_a_echo :
    (after 1 (machine [0xEA, 0x00, 0xE0] { g0 with a := 0x3C })).map (fun t => (t.read 0xC000, t.cycles)) = some (0x3C, 16) := by
  decide +kernel

/-- V13: LD BC,nn and LD A,B. -/
theorem test_ld_bc_nn :
    (after 1 (machine [0x01, 0x34, 0x12] g0)).map (fun t => (t.regs.b, t.regs.c, t.regs.pc, t.cycles)) =
        some (0x12, 0x34, 0xC003, 12) ∧
      (after 1 (machine [0x78] { g0 with b := 0x99 })).map (fun t => (t.regs.a, t.cycles)) = some (0x99, 4) := by
  decide +kernel

/-- V13: PUSH BC. -/
theorem test_push_bc :
    (after 1 (machine [0xC5] { g0 with b := 0x12, c := 0x34, sp := 0xD000 })).map
        (fun t => (t.regs.sp, t.read 0xCFFF, t.read 0xCFFE, t.cycles)) = some (0xCFFE, 0x12, 0x34, 16) := by decide +kernel

/-- V13: POP AF masks the low nibble of F. -/
theorem test_pop_af :
    (after 1 (((machine [0xF1] { g0 with sp := 0xD000 }).write 0xD000 0xFF).write 0xD001 0x12)).map
        (fun t => (t.regs.a, t.regs.f, t.regs.sp, t.cycles)) = some (0x12, 0xF0, 0xD002, 12) := by decide +kernel

/-- V13: LD (HL),n to the ROM of a ROM-only cartridge is ignored. -/
theorem test_ld_hl_n_rom :
    (after 1 (machine [0x36, 0x99] { g0 with h := 0x00, l := 0x00 })).map (fun t => (t.cart, t.regs.pc, t.cycles)) =
      some ((machine [0x36, 0x99] g0).cart, 0xC002, 12) := by decide +kernel

/-! Control transfer: V16. -/

/-- pc and the Clock after one step. -/
def jumped (s : State) : Option (Word × BitVec 64) :=
  (after 1 s).map fun t => (t.regs.pc, t.cycles)

/-- pc, SP, the two bytes at SP and the Clock after one step. -/
def called (s : State) : Option (Word × Word × Word × BitVec 64) :=
  (after 1 s).map fun t => (t.regs.pc, t.regs.sp, t.top16, t.cycles)

/-- V16: JP nn; JP NZ,nn not taken; JP Z,nn taken. -/
theorem test_jp :
    jumped (machine [0xC3, 0x34, 0x12] g0) = some (0x1234, 16) ∧
      jumped (machine [0xC2, 0x34, 0x12] { g0 with f := 0x80 }) = some (0xC003, 12) ∧
      jumped (machine [0xCA, 0x34, 0x12] { g0 with f := 0x80 }) = some (0x1234, 16) := by decide +kernel

/-- V16: JP HL. -/
theorem test_jp_hl : jumped (machine [0xE9] { g0 with h := 0x40, l := 0x00 }) = some (0x4000, 4) := by decide +kernel

/-- V16: JR at its extremes, and conditional. -/
theorem test_jr :
    jumped (machine [0x18, 0xFE] g0) = some (0xC000, 12) ∧ jumped (machine [0x18, 0x7F] g0) = some (0xC081, 12) ∧
      jumped (machine [0x18, 0x80] g0) = some (0xBF82, 12) ∧ jumped (machine [0x38, 0x10] g0) = some (0xC002, 8) ∧
      jumped (machine [0x30, 0x10] g0) = some (0xC012, 12) := by decide +kernel

/-- V16: CALL nn; CALL NC,nn not taken. -/
theorem test_call :
    called (machine [0xCD, 0x00, 0xD0] g0) = some (0xD000, 0xDFEE, 0xC003, 24) ∧
      called (machine [0xD4, 0x00, 0xD0] { g0 with f := 0x10 }) = some (0xC003, 0xDFF0, 0x0000, 12) := by decide +kernel

/-- V16: RST 38H. -/
theorem test_rst : called (machine [0xFF] g0) = some (0x0038, 0xDFEE, 0xC001, 16) := by decide +kernel

/-- The stack of V16's returns: SP = 0xDFEE, holding 0xC003. -/
def stacked (code : List Byte) (f : Byte) : State :=
  ((machine code { g0 with f := f, sp := 0xDFEE }).write 0xDFEE 0x03).write 0xDFEF 0xC0

/-- V16: RET; RET Z taken and not taken. -/
theorem test_ret :
    (after 1 (stacked [0xC9] 0x00)).map (fun t => (t.regs.pc, t.regs.sp, t.cycles)) = some (0xC003, 0xDFF0, 16) ∧
      (after 1 (stacked [0xC8] 0x80)).map (fun t => (t.regs.pc, t.regs.sp, t.cycles)) = some (0xC003, 0xDFF0, 20) ∧
      (after 1 (stacked [0xC8] 0x00)).map (fun t => (t.regs.pc, t.regs.sp, t.cycles)) = some (0xC001, 0xDFEE, 8) := by
  decide +kernel

/-- V16: RETI. -/
theorem test_reti :
    (after 1 (stacked [0xD9] 0x00)).map (fun t => (t.regs.pc, t.ime, t.cycles)) = some (0xC003, true, 16) := by decide +kernel

/-! The CPU step and interrupts: V17. -/

/-- `s` with IME, IE and IF set. -/
def withIrq (s : State) (ime : Bool) (ie : Byte) (iflag : BitVec 5) : State :=
  { s with ime := ime, ie := ie, iflag := iflag }

/-- V17: the delay of EI, then the dispatch. -/
theorem test_ei_delay :
    (after 2 (withIrq (machine [0xFB, 0x00, 0x00] g0) false 0x01 0x01)).map (fun t => (t.regs.pc, t.ime)) = some (0xC002, true) ∧
      (after 3 (withIrq (machine [0xFB, 0x00, 0x00] g0) false 0x01 0x01)).map
        (fun t => (t.regs.pc, t.ime, t.iflag, t.top16)) = some (0x0040, false, 0, 0xC002) := by decide +kernel

/-- V17: DI after EI cancels it. -/
theorem test_ei_di :
    (after 3 (withIrq (machine [0xFB, 0xF3, 0x00] g0) false 0x01 0x01)).map (fun t => (t.regs.pc, t.ime)) =
      some (0xC003, false) := by decide +kernel

/-- V17: the halt bug, on a one-byte and on a two-byte instruction. -/
theorem test_halt_bug :
    (after 3 (withIrq (machine [0x76, 0x3C, 0x00] g0) false 0x04 0x04)).map (fun t => (t.regs.a, t.regs.pc, t.halted)) =
        some (0x02, 0xC002, false) ∧
      (after 2 (withIrq (machine [0x76, 0x3E, 0x05] g0) false 0x04 0x04)).map (fun t => (t.regs.a, t.regs.pc)) =
        some (0x3E, 0xC002) := by decide +kernel

/-- V17: dispatch priority, and a request that is not enabled. -/
theorem test_dispatch :
    (after 1 (withIrq (machine [0x00] g0) true 0x1F 0x1C)).map (fun t => (t.regs.pc, t.iflag, t.ime, t.regs.sp, t.top16, t.cycles)) =
        some (0x0050, 0x18, false, 0xDFEE, 0xC000, 20) ∧
      (after 1 (withIrq (machine [0x00] g0) true 0x01 0x1E)).map (fun t => (t.regs.pc, t.iflag)) = some (0xC001, 0x1E) := by
  decide +kernel

/-- V17: an illegal opcode locks the CPU, 4 T-cycles a step. -/
theorem test_illegal :
    (after 3 (machine [0xD3, 0x3C] g0)).map (fun t => (t.locked, t.regs.pc, t.regs.a, t.cycles)) =
      some (true, 0xC001, 0x00, 12) := by decide +kernel

/-- V17: STOP is refused, with pc after its first byte and the Clock where it was. -/
theorem test_stop :
    (after 1 (machine [0x10, 0x00] g0)).map (fun t => (t.refused, t.regs.pc, t.cycles)) =
      some (some (.stopInstruction 0xC000), 0xC001, 0) ∧ after 2 (machine [0x10, 0x00] g0) = none := by decide +kernel

/-! The devices: V4, V8, V18, V21, V22. -/

/-- V8, V18: TAC = 0x05, TIMA = 0xFF, TMA = 0xAB, the divider from 0: TIMA after ticks 15 to 20, the request at 16. -/
theorem test_timer_overflow :
    let run := fun n => Timer.ticks n { Timer.reset with tac := 5, tima := 0xFF, tma := 0xAB }
    ([15, 16, 17, 18, 19, 20].map fun n => (run n).1.tima) = [0xFF, 0x00, 0x00, 0x00, 0x00, 0xAB] ∧
      (run 15).2 = 0 ∧ (run 16).2 = irqBit .timer := by decide +kernel

/-- V18: TAC = 0x05, 8 ticks, then DIV written and 1 tick: TIMA counts once; the same when TAC is disabled instead. -/
theorem test_timer_glitches :
    let t := (Timer.ticks 8 { Timer.reset with tac := 5 }).1
    (Timer.ticks 1 (t.write 0xFF04 0x55)).1.tima = 1 ∧ (Timer.ticks 1 (t.write 0xFF07 0x01)).1.tima = 1 ∧
      (t.write 0xFF07 0x01).read 0xFF07 = 0xF9 := by decide +kernel

/-- An MBC1 cartridge with `romBanks` banks (at least 2), bank b holding b at its offset 0, and `ramBanks` banks of RAM. -/
def mbc1 (romBanks ramBanks : Nat) : State :=
  State.postBootProfile
    { kind := .mbc1, romBanks := ⟨max 2 romBanks, Nat.le_max_left 2 romBanks⟩, ramBanks := ramBanks, hasRam := ramBanks != 0,
      rom := (List.range romBanks).map fun b => (b * 0x4000, BitVec.ofNat 8 b), boot := [], joypad := JoypadParam.standard } Init.zero

/-- V5, V21: the bank of 0x4000 on a 4-bank MBC1 at reset and after bank writes. -/
theorem test_mbc1_banks :
    ([0x00, 0x02, 0x03, 0x04, 0x05].map fun v => ((mbc1 4 0).write 0x2000 v).read 0x4000) = [1, 2, 3, 1, 1] ∧
      (mbc1 4 0).read 0x4000 = 1 := by decide +kernel

/-- V6, V21: RAM gating with one bank. -/
theorem test_mbc1_ram_gate :
    let s := mbc1 4 1
    let t := (s.write 0xA000 0x55).write 0x0000 0x0A
    let u := t.write 0xA000 0x55
    [s.read 0xA000, (s.write 0xA000 0x55).read 0xA000, t.read 0xA000, u.read 0xA000, (u.write 0x0000 0x1A).read 0xA000] =
      [0xFF, 0xFF, 0x00, 0x55, 0xFF] := by decide +kernel

/-- V21: the 64-bank cartridge's high bits in mode 0 and mode 1. -/
theorem test_mbc1_high_bits :
    let s := ((mbc1 64 0).write 0x2000 0x01).write 0x4000 0x01
    [s.cart.romBank, (s.write 0x6000 0x01).cart.romBank, (s.write 0x2000 0x00).cart.romBank] = [33, 1, 33] := by
  decide +kernel

/-- V21: the fault with three RAM banks, and none with four. -/
theorem test_mbc1_fault :
    (((mbc1 4 3).write 0x4000 0x03).write 0x6000 0x01).faulted = some (.mbcRamBankOutOfRange 3 3) ∧
      (((mbc1 4 4).write 0x4000 0x03).write 0x6000 0x01).faulted = none := by decide +kernel

/-- V22: the bus, with the LCD off. -/
theorem test_bus :
    let s := machine [] g0
    [(s.write 0xC123 0x5A).read 0xE123, (s.write 0xFF0F 0xFF).read 0xFF0F, (s.write 0xFF41 0xFF).read 0xFF41,
      (s.write 0xFF44 0x12).read 0xFF44, (s.write 0xFF07 0xFD).read 0xFF07, (s.write 0xFEA0 0x77).read 0xFEA0, s.read 0xFF50] =
      [0x5A, 0xFF, 0xFC, 0x00, 0xFD, 0x77, 0x01] := by decide +kernel

/-- OAM for V4: entries 0 to 10 at y = 16, with V4's x. -/
def oamV4 : Memory :=
  let xs : List Byte := [50, 40, 40, 30, 60, 40, 20, 70, 80, 90, 10]
  (List.range 11).foldl (fun m k => memSet (memSet m (4 * k) 16) (4 * k + 1) (xs.getD k 0)) []

/-- V4, V19: the OAM search keeps the first ten, sorted by x, ties in OAM order. -/
theorem test_oam_search :
    (Nat.iterate (fun q : Ppu => q.sequencerTick.1) 80 { Ppu.reset [] oamV4 with lcdc := 0x93, mode := .oamSearch }).oamBuffer.map
        OamEntry.index = [6, 3, 1, 2, 5, 0, 4, 7, 8, 9] := by decide +kernel

/-- V19: Drawing lasts 172 T-cycles with SCX = 0 and 179 with SCX = 7. -/
theorem test_drawing_length :
    let p := fun scx : Byte => { Ppu.reset [] [] with lcdc := 0x93, mode := .oamSearch, scx := scx }
    let mode := fun scx n => (Nat.iterate (fun q : Ppu => q.sequencerTick.1) n (p scx)).mode
    mode 0 251 = .drawing ∧ mode 0 252 = .hblank ∧ mode 7 258 = .drawing ∧ mode 7 259 = .hblank := by decide +kernel

/-- An instruction placed by `withFetchWord` is the one the next step runs: LD BC,nn from reset. -/
theorem test_with_fetch_word :
    (after 1 (State.reset.withFetchWord 24 0x123401)).map (fun t => (t.regs.get16 .bc, t.regs.pc)) = some (0x1234, 0x0003) := by
  decide +kernel

/-- R440, R441: with the directions selected (0x20 written), Down held reads bit 3 as 0 and requests Joypad (IF bit 4); A, of the
group not selected, shows and requests nothing. -/
theorem test_joypad_default :
    let s := (machine [] g0).write 0xFF00 0x20
    [s.read 0xFF00, (s.press .down).read 0xFF00, (s.press .a).read 0xFF00, ((s.press .down).release .down).read 0xFF00] =
        [0xEF, 0xE7, 0xEF, 0xEF] ∧
      (s.press .down).iflag = 0x10 ∧ (s.press .a).iflag = 0 ∧ (s.release .down).iflag = 0 := by decide +kernel

/-- R9: a JOYPAD of its own, which reads 0x5A, keeps the whole byte written, and requests at that write. -/
theorem test_joypad_argument :
    let j : Joypad := { Joypad.reset with sel := 0xA5 }
    let s : State := { machine [] g0 with
      joypadParam := { reads := [(j, 0x5A)], writes := [((Joypad.reset, 0xA5), 0xA5)], requests := [((Joypad.reset, .write 0xA5), true)] } }
    (s.write 0xFF00 0xA5).read 0xFF00 = 0x5A ∧ (s.write 0xFF00 0xA5).iflag = 0x10 ∧ (s.write 0xFF00 0x30).iflag = 0 := by
  decide +kernel

/-- A launch with END = 0x0102 and two NOPs before it (R740). -/
def nopsThenEnd : ClaimLaunch :=
  { request := { goodLaunch with cart := List.replicate 0x102 0x00 ++ [0x18, 0xFE] }, endAddr := 0x0102, holdsEnd := by decide +kernel }

/-- The first boundary of a launch's run within `fuel` steps that meets the conditions of R740. -/
def endOf (l : ClaimLaunch) (fuel : Nat) : Option State :=
  match launch l.request Init.zero with
  | .next s => State.firstEnd l.endAddr fuel s
  | .fault _ => none
  | .refused _ => none

/-- R740: the first boundary at END comes after two steps of 4 T-cycles; the address after END is none, since the image does not hold
the two bytes there. -/
theorem test_run_end :
    (endOf nopsThenEnd 8).map (fun t => (t.regs.pc, t.cycles)) = some (0x0102, 8) ∧ endOf nopsThenEnd 1 = none ∧
      ¬ HoldsEnd nopsThenEnd.request 0x0103 := by decide +kernel

/-! ### Witnesses: for each statement with hypotheses, data that meets them

One theorem per statement, named after it; several where its clauses take different data. -/

/-- MBC1 with RAM enabled and RAM_BANKS = 3, the LCD off, banking mode 1. -/
def threeBanks : State :=
  (((mbc1 4 3).write 0xFF40 0x00).write 0x0000 0x0A).write 0x6000 0x01

theorem test_witness_decodeEncode : (Instr.ldMemNnSp 0xFFFF).wf = true ∧ Instr.nop.wf = true := by decide

theorem test_witness_encodeDecode :
    decode [0x06, 0xFF, 0x00] = .ok (.ldBN 0xFF, [0x00]) ∧ Instr.ldBN 0xFF ≠ .stop ∧ decode [0x10, 0xFF] = .ok (.stop, []) := by
  refine ⟨rfl, by decide, rfl⟩

/-- NOP at 0xC000, nothing pending. -/
def idle : State := machine [0x00, 0x00] g0

theorem test_witness_stepRunsDecoded :
    idle.Fetches ∧ idle.haltBug = false ∧
      decode [idle.read idle.regs.pc, idle.read (idle.regs.pc + 1), idle.read (idle.regs.pc + 2)] = .ok (.nop, [0x00, 0x00]) ∧
      Instr.nop.wf = true := by
  refine ⟨by decide +kernel, by decide +kernel, rfl, by decide⟩

theorem test_witness_haltBugFetch :
    let s : State := { machine [0x3E, 0x05] g0 with haltBug := true }
    s.Fetches ∧ s.haltBug = true ∧
      decode [s.read s.regs.pc, s.read s.regs.pc, s.read (s.regs.pc + 1)] = .ok (.ldAN 0x3E, [0x05]) := by
  exact ⟨by decide +kernel, by decide +kernel, by decide +kernel⟩

theorem test_witness_markedTakesNoStep :
    ({ idle with faulted := some (.mbcRamBankOutOfRange 3 3) } : State).faulted = some (.mbcRamBankOutOfRange 3 3) ∧
      ({ idle with refused := some (.stopInstruction 0xC000) } : State).faulted = none ∧
      ({ idle with refused := some (.stopInstruction 0xC000) } : State).refused = some (.stopInstruction 0xC000) := by
  decide +kernel

/-- A halted CPU with IE, IF and IME as given. -/
def halting (ime : Bool) (ie : Byte) (iflag : BitVec 5) : State :=
  { withIrq idle ime ie iflag with halted := true }

theorem test_witness_haltedStep :
    (halting true 0x1F 0).NoFault ∧ (halting true 0x1F 0).locked = false ∧ (halting true 0x1F 0).halted = true ∧
      (halting true 0x1F 0).pending = 0 ∧ (halting true 0x10 0x10).pending ≠ 0 ∧ (halting true 0x10 0x10).ime = true ∧
      (halting false 0x01 0x01).pending ≠ 0 ∧ (halting false 0x01 0x01).ime = false := by decide +kernel

theorem test_witness_haltWithoutEnableHangs :
    let s := halting true 0xE0 0x1F
    s.NoFault ∧ s.locked = false ∧ s.halted = true ∧ s.ie &&& 0x1F = 0 := by decide +kernel

theorem test_witness_illegalLocks :
    idle.lock.NoFault ∧ idle.lock.locked = true ∧ (machine [0xD3] g0).Fetches ∧ (machine [0xD3] g0).haltBug = false ∧
      (machine [0xD3] g0).fetchInstr = .illegal 0 ∧ (machine [0xFD] g0).fetchInstr = .illegal 10 := by decide +kernel

/-- Sources 0 and 4, the ends of the range, each served. -/
theorem test_witness_dispatchServesLowest :
    let s := withIrq idle true 0x1F 0x1F
    let t := withIrq idle true 0x1F 0x10
    (s.NoFault ∧ s.locked = false ∧ s.ime = true ∧ s.ie.getLsbD 0 = true ∧ s.iflag.getLsbD 0 = true ∧
        s.writeFaults (s.regs.sp - 1).toNat (hiByte s.regs.pc) = false ∧
        (s.write (s.regs.sp - 1) (hiByte s.regs.pc)).writeFaults (s.regs.sp - 2).toNat (loByte s.regs.pc) = false) ∧
      t.NoFault ∧ t.locked = false ∧ t.ime = true ∧ t.ie.getLsbD 4 = true ∧ t.iflag.getLsbD 4 = true ∧
      ∀ j : Fin 5, j < 4 → t.ie.getLsbD j = false ∨ t.iflag.getLsbD j = false := by decide +kernel

/-- A dispatch whose first push byte faults, and one whose second does. -/
theorem test_witness_dispatchServesLowest_fault :
    let s : State := { withIrq threeBanks true 0x1F 0x01 with regs := { g0 with pc := 0xC3C3, sp := 0x4001 } }
    let t : State := { withIrq threeBanks true 0x1F 0x01 with regs := { g0 with pc := 0xC3C3, sp := 0x6001 } }
    s.NoFault ∧ s.locked = false ∧ s.writeFaults (s.regs.sp - 1).toNat (hiByte s.regs.pc) = true ∧
      t.NoFault ∧ t.locked = false ∧ t.writeFaults (t.regs.sp - 1).toNat (hiByte t.regs.pc) = false ∧
      (t.write (t.regs.sp - 1) (hiByte t.regs.pc)).writeFaults (t.regs.sp - 2).toNat (loByte t.regs.pc) = true := by
  decide +kernel

/-- Interrupts off and IE zero: HALT halts; IE and IF meeting with IME = 0: it arms the bug. -/
theorem test_witness_systemInstructions :
    ¬ (idle.ime = false ∧ idle.ie.setWidth 5 &&& idle.iflag ≠ 0) ∧
      (withIrq idle false 0x1F 0x10).ime = false ∧ (withIrq idle false 0x1F 0x10).ie.setWidth 5 &&& (0x10 : BitVec 5) ≠ 0 := by
  decide +kernel

theorem test_witness_eiTakesEffect :
    (let s := machine [0xFB] g0
     s.Fetches ∧ s.imeDelay = 0 ∧ s.fetchInstr = .ei) ∧
      (let s : State := { idle with imeDelay := 1 }
       s.Fetches ∧ s.imeDelay = 1 ∧ s.fetchInstr ≠ .ei ∧ s.fetchInstr ≠ .di ∧ (after 1 s).map State.stopped = some false) ∧
      (machine [0xF3] g0).Fetches ∧ (machine [0xF3] g0).fetchInstr = .di ∧ idle.stopped = false ∧ (idle.refuse (.stopInstruction 0)).stopped = true := by decide +kernel

theorem test_witness_stopIsRefused :
    (machine [0x10, 0x00] g0).Fetches ∧ (machine [0x10, 0x00] g0).haltBug = false ∧ (machine [0x10, 0x00] g0).fetchInstr = .stop := by
  decide +kernel

theorem test_witness_registerFile : Reg8.a ≠ Reg8.b := by decide

/-- One-byte stores that store, at the ends of every region, and a store that is dropped. -/
theorem test_witness_memoryStores :
    threeBanks.faulted = none ∧ threeBanks.MemInv ∧
      ([0x8000, 0x9FFF, 0xA000, 0xBFFF, 0xC000, 0xDDFF, 0xDFFF, 0xE000, 0xFDFF, 0xFE00, 0xFE9F, 0xFEA0, 0xFEFF, 0xFF01, 0xFF03,
        0xFF05, 0xFF06, 0xFF08, 0xFF0E, 0xFF10, 0xFF3F, 0xFF42, 0xFF4B, 0xFF4C, 0xFF4F, 0xFF51, 0xFF7F, 0xFF80, 0xFFFE, 0xFFFF].all
          fun a => threeBanks.storesAt a && threeBanks.quiet a && !threeBanks.writeFaults a 0x55) = true ∧
      idle.quiet 0x0000 = true ∧ idle.storesAt 0x0000 = false ∧ ¬ SameCell 0xC000 0xDFFF := by
  refine ⟨by decide +kernel, by decide +kernel, by decide +kernel, by decide +kernel, by decide +kernel, by decide⟩

/-- Stores that raise the fault of R113: bankHigh 3 with three banks, at both ends of 0x4000 to 0x5FFF; setting mode 1 at 0x7FFF. -/
theorem test_witness_memoryStores_fault :
    threeBanks.faulted = none ∧ threeBanks.writeFaults 0x4000 0x03 = true ∧ threeBanks.writeFaults 0x5FFF 0xFF = true ∧
      threeBanks.writeFaults 0x4000 0x02 = false ∧ threeBanks.writeFaults 0x3FFF 0x03 = false ∧
      ((mbc1 4 3).write 0x4000 0x03).writeFaults 0x7FFF 0x01 = true := by decide +kernel

theorem test_witness_wordStores :
    let s := machine [] g0
    s.faulted = none ∧ s.writeFaults 0xDFEF 0x12 = false ∧ (s.write 0xDFEF 0x12).writeFaults 0xDFEE 0x34 = false ∧ s.MemInv ∧
      s.storesAt 0xDFEF = true ∧ s.storesAt 0xDFEE = true ∧ s.quiet 0xDFEF = true ∧ s.quiet 0xDFEE = true := by decide +kernel

theorem test_witness_wordStores_cells : ¬ SameCell 0xDFEF 0xDFEE := by decide

theorem test_witness_pushThenPop :
    let s := machine [] { g0 with f := 0xF0 }
    s.faulted = none ∧ s.MemInv ∧ s.regs.f &&& 0x0F = 0 ∧ s.storesAt (s.regs.sp - 1).toNat = true ∧
      s.storesAt (s.regs.sp - 2).toNat = true := by decide +kernel

theorem test_witness_decimalArithmetic :
    (machine [] g0).regs.a = bcd (0 : Fin 100).val ∧ (machine [] { g0 with a := 0x99 }).regs.a = bcd (99 : Fin 100).val := by
  decide +kernel

/-- A read-modify-write at 0xC100 that stores; `test_witness_memorySteps_fault` has the ones that fault. -/
theorem test_witness_memorySteps :
    let s := machine [] { g0 with h := 0xC1, l := 0x00 }
    s.faulted = none ∧ s.writeFaults (s.regs.get16 .hl).toNat 0x80 = false ∧ s.MemInv ∧ s.storesAt (s.regs.get16 .hl).toNat = true ∧
      s.quiet (s.regs.get16 .hl).toNat = true := by decide +kernel

/-- HL at 0x4000, where the cartridge reads `v`, with three RAM banks in banking mode 1: a write there of a byte whose bits 1 to 0 are
set selects bank 3 and faults. -/
def atBankRegister (v : Byte) : State :=
  let s := threeBanks.place 0x4000 v
  { s with regs := { g0 with h := 0x40, l := 0x00 } }

/-- The same with RAM_BANKS = 0, where every write at 0x4000 faults. -/
def atBankRegisterNoBanks (v : Byte) : State :=
  let s := atBankRegister v
  { s with cart := { s.cart with ramBanks := 0 } }

/-- INC (HL) of 0x02 and DEC (HL) of 0x04 write 0x03, and fault. -/
theorem test_witness_memorySteps_fault :
    let s := atBankRegister 0x02
    let t := atBankRegister 0x04
    s.faulted = none ∧ s.read (s.regs.get16 .hl) = 0x02 ∧
      s.writeFaults (s.regs.get16 .hl).toNat (s.read (s.regs.get16 .hl) + 1) = true ∧
      t.faulted = none ∧ t.read (t.regs.get16 .hl) = 0x04 ∧
      t.writeFaults (t.regs.get16 .hl).toNat (t.read (t.regs.get16 .hl) - 1) = true := by decide +kernel

/-- RLC (HL), RRC (HL), SRA (HL) and SWAP (HL) of 0xFF write 0xFF, RR (HL) and SRL (HL) 0x7F, RL (HL) with the carry 0xFF, and fault;
with RAM_BANKS = 0 all eight do. A form that stores: SLA (HL) at 0xC100. -/
theorem test_witness_rotatesAndShifts :
    let s := atBankRegister 0xFF
    let u := atBankRegisterNoBanks 0xFF
    let hl := (s.regs.get16 .hl).toNat
    let w := machine [] { g0 with h := 0xC1, l := 0x00 }
    s.faulted = none ∧ s.read (s.regs.get16 .hl) = 0xFF ∧
      ([ShiftOp.rlc, .rrc, .rr, .sra, .swap, .srl].all fun op => s.writeFaults hl (ruleShift op 0xFF false).1) = true ∧
      s.writeFaults hl (ruleShift .rl 0xFF true).1 = true ∧
      u.faulted = none ∧ u.read (u.regs.get16 .hl) = 0xFF ∧
      ([ShiftOp.rlc, .rrc, .rl, .rr, .sla, .sra, .swap, .srl].all fun op => u.writeFaults hl (ruleShift op 0xFF false).1) = true ∧
      w.faulted = none ∧ w.MemInv ∧ w.storesAt 0xC100 = true ∧ w.quiet 0xC100 = true ∧
      w.writeFaults (w.regs.get16 .hl).toNat (ruleShift .sla (w.read (w.regs.get16 .hl)) false).1 = false := by decide +kernel

/-- RES (HL) of 0xFF for every bit but 0 and 1, and SET (HL) of 0xFF for every bit, write a byte that faults; with RAM_BANKS = 0 RES of
every bit does. Forms that store: RES 0,(HL) and SET 7,(HL) at 0xC100. -/
theorem test_witness_bitOperations :
    let s := atBankRegister 0xFF
    let u := atBankRegisterNoBanks 0xFF
    let hl := (s.regs.get16 .hl).toNat
    let v := s.read (s.regs.get16 .hl)
    let w := machine [] { g0 with h := 0xC1, l := 0x00 }
    s.faulted = none ∧ u.faulted = none ∧ u.read (u.regs.get16 .hl) = v ∧
      ([2, 3, 4, 5, 6, 7].all fun b => s.writeFaults hl (v &&& ~~~((1 : Byte) <<< b))) = true ∧
      ((List.range 8).all fun b => s.writeFaults hl (v ||| (1 : Byte) <<< b)) = true ∧
      ((List.range 8).all fun b => u.writeFaults hl (v &&& ~~~((1 : Byte) <<< b))) = true ∧
      w.faulted = none ∧ w.MemInv ∧ w.storesAt 0xC100 = true ∧ w.quiet 0xC100 = true ∧
      w.writeFaults 0xC100 (w.read 0xC100 &&& 0xFE) = false ∧ w.writeFaults 0xC100 (w.read 0xC100 ||| 0x80) = false := by
  decide +kernel

theorem test_witness_calls :
    condOn .nz 0x00 = true ∧ condOn .nz 0x80 = false ∧ condOn .c 0x10 = true ∧ condOn .c 0x00 = false ∧
      (machine [] g0).faulted = none ∧ (machine [] g0).writeFaults 0xDFEF 0xC0 = false ∧
      ((machine [] g0).write 0xDFEF 0xC0).writeFaults 0xDFEE 0x03 = false := by decide +kernel

/-- SP = 0x6001 and three RAM banks: a push of 0x0003 faults at its second byte (bankHigh 3); SP = 0x4001 and a high byte of 3: at
its first. -/
theorem test_witness_wordStores_fault :
    threeBanks.faulted = none ∧ threeBanks.writeFaults 0x4000 0x03 = true ∧ threeBanks.writeFaults 0x6000 0x01 = false ∧
      (threeBanks.write 0x6000 0x01).writeFaults 0x5FFF 0x03 = true ∧ condOn .z 0x80 = true := by decide +kernel

/-- RAM_BANKS = 1, ROM-only, and no cartridge RAM, each with a step that takes place. -/
theorem test_witness_faultUnreachable :
    ((mbc1 4 1).cart.ramBanks = 2 ^ 0 ∧ (mbc1 4 1).NoFault ∧ (after 1 (mbc1 4 1)).isSome = true) ∧
      (idle.cart.kind = .romOnly ∧ idle.NoFault ∧ (after 1 idle).isSome = true) ∧
      (mbc1 4 0).cart.hasRam = false ∧ (mbc1 4 0).NoFault ∧ (after 1 (mbc1 4 0)).isSome = true := by decide +kernel

theorem test_witness_readAfterWrite :
    threeBanks.MemInv ∧ threeBanks.storesAt 0xDDFF = true ∧ threeBanks.lockedOut 0xFDFF = false ∧ threeBanks.quiet 0xDDFF = true := by
  decide +kernel

theorem test_witness_readAfterWrite_cells : SameCell 0xDDFF 0xFDFF ∧ SameCell 0xE000 0xC000 ∧ ¬ SameCell 0xDDFF 0xDDFE := by decide

/-- A transfer running, and none running in each mode. -/
theorem test_witness_accessGates :
    ((machine [] g0).write 0xFF46 0xC0).ppu.dmaActive = true ∧ (machine [] g0).ppu.dmaActive = false ∧
      (machine [] g0).ppu.mode = .hblank ∧ (State.postBootProfile Launch.unlisted Init.zero).ppu.dmaActive = false ∧
      (State.postBootProfile Launch.unlisted Init.zero).ppu.mode = .oamSearch ∧
      ({ Ppu.reset [] [] with mode := .drawing } : Ppu).dmaActive = false := by decide +kernel

theorem test_witness_accessGates_bounds :
    ¬ (0xFF80 ≤ (0xFF7F : Word).toNat ∧ (0xFF7F : Word).toNat ≤ 0xFFFE) ∧ 0xFF80 ≤ (0xFFFE : Word).toNat ∧
      0xFE00 ≤ (0xFE9F : Word).toNat ∧ 0x8000 ≤ (0x8000 : Word).toNat ∧ (0x9FFF : Word).toNat ≤ 0x9FFF := by decide

theorem test_witness_bootOverlay :
    State.reset.ppu.dmaActive = false ∧ State.reset.bootMapped = true ∧ (0x00FF : Word).toNat < 0x0100 ∧ idle.ppu.dmaActive = false ∧
      idle.bootMapped = false := by decide +kernel

theorem test_witness_mbc1Registers :
    threeBanks.ppu.dmaActive = false ∧ threeBanks.cart.kind = .mbc1 ∧ (0x1FFF : Word).toNat ≤ 0x1FFF ∧
      0x2000 ≤ (0x3FFF : Word).toNat ∧ (0x3FFF : Word).toNat ≤ 0x3FFF ∧ 0x4000 ≤ (0x5FFF : Word).toNat ∧
      0x6000 ≤ (0x7FFF : Word).toNat ∧ (0x7FFF : Word).toNat ≤ 0x7FFF := by decide +kernel

/-- A write that raises the fault of R113, one that does not, and a count of banks that is a power of two. -/
theorem test_witness_mbc1Registers_fault :
    (threeBanks.write 0x5FFF 0x03).cart.mbc.ramBanking = true ∧ (threeBanks.write 0x5FFF 0x03).cart.hasRam = true ∧
      (threeBanks.write 0x5FFF 0x03).cart.ramBanks ≤ (threeBanks.write 0x5FFF 0x03).cart.ramBank ∧
      ¬ (threeBanks.write 0x5FFF 0x02).cart.ramBanks ≤ (threeBanks.write 0x5FFF 0x02).cart.ramBank ∧
      (mbc1 4 1).cart.ramBanks = 2 ^ 0 := by decide +kernel

theorem test_witness_cartridgeWindow :
    (idle.ppu.dmaActive = false ∧ idle.bootMapped = false ∧ idle.cart.kind = .romOnly) ∧ threeBanks.ppu.dmaActive = false ∧
      threeBanks.bootMapped = false ∧ threeBanks.cart.kind = .mbc1 ∧ threeBanks.cart.hasRam = true ∧
      threeBanks.cart.mbc.ramEnabled = true ∧ threeBanks.cart.ramBank * 0x2000 + (0xBFFF - 0xA000) < threeBanks.cart.ramBanks * 0x2000 ∧
      (mbc1 4 0).cart.hasRam = false ∧ (mbc1 4 1).cart.mbc.ramEnabled = false := by decide +kernel

/-- A read at 0x0100 while the boot overlay is mapped, and one at 0x00FF while it is not. -/
theorem test_witness_cartridgeWindow_overlay :
    State.reset.ppu.dmaActive = false ∧ State.reset.bootMapped = true ∧ 0x0100 ≤ (0x0100 : Word).toNat ∧
      State.reset.cart.kind = .romOnly ∧ idle.bootMapped = false ∧ (0x00FF : Word).toNat ≤ 0x3FFF ∧
      ({ mbc1 4 1 with bootMapped := true } : State).cart.kind = .mbc1 := by decide +kernel

theorem test_witness_interruptAndTimerRegisters : idle.ppu.dmaActive = false := by decide +kernel

/-- Ticks without an edge, with one below 0xFF, with one at 0xFF, with one right after a reload, and each reload case. -/
theorem test_witness_timerOverflow :
    let t : Timer := { Timer.reset with divCounter := 15, prevAnd := true, tac := 5 }
    (t.prevAnd && !((t.divCounter + 1).getLsbD ([9, 3, 5, 7].getD (t.tac.toNat % 4) 0) && t.tac.getLsbD 2)) = true ∧ t.tima ≠ 0xFF ∧
      t.reloadCountdown = 0 ∧ ({ t with tima := 0xFF } : Timer).tick.1.reloadCountdown = 4 ∧
      (Timer.reset.prevAnd && true) = false ∧ ({ t with reloadCountdown := 1, tma := 0xFF } : Timer).tick.2 = irqBit .timer ∧
      ({ Timer.reset with reloadCountdown := 4 } : Timer).tick.1.reloadCountdown = 3 := by decide +kernel

/-- The premises of the split; a T-cycle with a transfer and without one, with the LCD on and off. -/
theorem test_witness_catchUpEquivalence :
    let on := State.postBootProfile Launch.unlisted Init.zero
    let dma := idle.write 0xFF46 0xC0
    idle.ClockInv ∧ idle.ppu.PipeInv ∧ 456 + 70224 < 2 ^ 64 ∧ idle.ppu.dmaActive = false ∧ idle.ppu.lcdc.getLsbD 7 = false ∧
      on.ppu.dmaActive = false ∧ on.ppu.lcdc.getLsbD 7 = true ∧ dma.ppu.dmaActive = true ∧ dma.ClockInv ∧ dma.ppu.PipeInv ∧
      dma.dmaStep.ppu.lcdc.getLsbD 7 = false := by decide +kernel

/-- A catch-up of 8 T-cycles runs 8, not fewer and not more: an OAM search from T-cycle 0 is at 8, a divider from 0 too. -/
theorem test_catch_up_counts :
    let s := (State.postBootProfile Launch.unlisted Init.zero).tick 8
    s.catchUp.ppu.lineCycles = 8 ∧ s.catchUp.timer.divCounter = 8 ∧ s.catchUp.ppuLast = 8 ∧ s.catchUp.timerLast = 8 := by
  decide +kernel

theorem test_witness_ppuRegisters : idle.ppu.dmaActive = false := by decide +kernel

/-- LCDC[7] unchanged, turned on, turned off. -/
theorem test_witness_lcdSwitch :
    let off := idle
    let on := State.postBootProfile Launch.unlisted Init.zero
    off.ppu.dmaActive = false ∧ off.ppu.lcdc.getLsbD 7 = (0x7F : Byte).getLsbD 7 ∧ off.ppu.lcdc.getLsbD 7 = false ∧
      (0x80 : Byte).getLsbD 7 = true ∧ on.ppu.dmaActive = false ∧ on.ppu.lcdc.getLsbD 7 = true := by decide +kernel

theorem test_witness_oamSearch :
    let p := (State.postBootProfile Launch.unlisted Init.zero).ppu
    p.lcdc.getLsbD 7 = true ∧ p.mode = .oamSearch ∧ p.lineCycles = 0 ∧ p.oamBuffer = [] ∧ p.oamCount = 0 := by decide +kernel

/-- The PPU with the LCD on, in the given mode, line and T-cycle. -/
def lit (m : Mode) (ly : Byte) (lineCycles : Nat) : Ppu :=
  { Ppu.reset [] [] with lcdc := 0x91, mode := m, ly := ly, lineCycles := lineCycles }

/-- The LCD off, and on in each mode at both sides of each guard: T-cycles 79 and 80 of a line, pixelX short of 160 and at it, T-cycles
455 and 456 of a line in HBlank (lines 142 and 143) and in VBlank (lines 152 and 153). -/
theorem test_witness_modeOrder :
    let draw : Ppu := { lit .drawing 143 200 with pixelX := 159, bgFifo := [1] }
    idle.ppu.ModeInv ∧ idle.ppu.lcdc.getLsbD 7 = false ∧ (lit .oamSearch 0 78).ModeInv ∧ (lit .oamSearch 0 79).ModeInv ∧
      (lit .drawing 143 80).ModeInv ∧ (lit .drawing 143 80).drawTick.pixelX ≠ 160 ∧ draw.ModeInv ∧ draw.drawTick.pixelX = 160 ∧
      (lit .hblank 143 454).ModeInv ∧ (lit .hblank 143 455).ModeInv ∧ (lit .hblank 142 455).ModeInv ∧ (lit .vblank 144 454).ModeInv ∧
      (lit .vblank 152 455).ModeInv ∧ (lit .vblank 153 455).ModeInv ∧ draw.lcdc.getLsbD 7 = true := by
  refine ⟨?_, ?_, ?_, ?_, ?_, ?_, ?_, ?_, ?_, ?_, ?_, ?_, ?_, ?_, ?_⟩ <;> decide +kernel

/-- R526, R527, R529, R534: line 143 ends in VBlank of line 144 with VBlank and, by STAT[4] and STAT[6], STAT requested; line 153 ends in
OAMSearch of line 0; a line of HBlank before its end only counts. -/
theorem test_line_ends :
    let vb := ({ lit .hblank 143 455 with statSel := 0b0010 } : Ppu).sequencerTick
    let fr := (lit .vblank 153 455).sequencerTick
    (vb.1.mode, vb.1.ly, vb.1.lineCycles, vb.2) = (.vblank, 144, 0, irqBit .stat ||| irqBit .vblank) ∧
      (fr.1.mode, fr.1.ly, fr.1.frameCounter) = (.oamSearch, 0, 1) ∧ (lit .hblank 143 454).sequencerTick.1.lineCycles = 455 ∧
      (lit .hblank 143 454).sequencerTick.1.mode = .hblank := by decide +kernel

theorem test_witness_statRequests :
    idle.ppu.ly = idle.ppu.lyc ∧ ({ idle.ppu with lyc := 1 } : Ppu).ly ≠ ({ idle.ppu with lyc := 1 } : Ppu).lyc := by decide +kernel

/-- A transfer just started from page 0x00, from page 0xDF, and from VRAM. -/
theorem test_witness_dmaTransfer :
    (idle.ppu.dmaActive = false) ∧
      (let s := idle.write 0xFF46 0x00
       s.MemInv ∧ s.ppu.dmaActive = true ∧ s.ppu.dmaIndex = 0 ∧ s.ppu.dmaSource = BitVec.ofNat 16 (256 * 0x00)) ∧
      (let s := idle.write 0xFF46 0xFF
       s.MemInv ∧ s.ppu.dmaActive = true ∧ s.ppu.dmaIndex = 0 ∧ s.ppu.dmaSource = BitVec.ofNat 16 (256 * 0xDF)) ∧
      (let s := idle.write 0xFF46 0x80
       s.ppu.dmaActive = true ∧ s.ppu.dmaIndex = 0) := by
  decide +kernel

theorem test_witness_drawingLength :
    let p := ({ Ppu.reset [] [] with lcdc := 0x93, mode := .drawing, scx := 7, lineCycles := 80 } : Ppu).resetPipeline
    p.lcdc.getLsbD 7 = true ∧ p.lcdc.getLsbD 5 = false ∧ p.mode = .drawing ∧ p.oamBuffer = [] ∧ p.resetPipeline = p := by
  decide +kernel

/-- Each state of the background fetcher, on its first and second T-cycle, inside and outside the window; Push on an empty and on a
full FIFO. -/
theorem test_witness_backgroundFetch :
    let p := (lit .drawing 0 80).resetPipeline
    let q : Ppu := { p with windowActiveLine := true, windowLine := 0, bg := { p.bg with state := .push } }
    p.bg.state = .getTile ∧ p.bg.timer = 0 ∧ p.bgStep.bg.timer = 1 ∧ p.bgStep.bgStep.bg.state = .getTileDataLow ∧
      p.bgStep.bgStep.bgStep.bgStep.bg.state = .getTileDataHigh ∧ q.bg.state = .push ∧ q.bgFifo = [] ∧
      ({ q with bgFifo := [1] } : Ppu).bgFifo ≠ [] := by decide +kernel

/-- A due sprite at the first column; none due; a fetch in each state; Push onto an empty FIFO. -/
theorem test_witness_spriteFetch :
    let e : OamEntry := { y := 16, x := 8, tile := 1, flags := 0x60, index := 0 }
    let p : Ppu := { (lit .drawing 0 80).resetPipeline with oamBuffer := [e], oamCount := 1 }
    let run := fun n => Nat.iterate Ppu.fetchAction n p
    (p.spr.active = false ∧ p.sprFifo.length < 8 ∧ p.oamBuffer.find? (fun d => d.x.toNat == p.pixelX + 8) = some e) ∧
      (∀ d ∈ p.oamBuffer, d.x.toNat ≠ ({ p with pixelX := 1 } : Ppu).pixelX + 8) ∧
      (run 1).spr.active = true ∧ (run 1).spr.entry = some e ∧ (run 1).spr.state = .getTile ∧ (run 1).spr.timer = 1 ∧
      (run 2).spr.state = .getTileDataLow ∧ (run 2).spr.timer = 0 ∧ (run 4).spr.state = .getTileDataHigh ∧
      (run 6).spr.state = .push ∧ (run 6).sprFifo.length ≤ 8 := by decide +kernel

/-- A pixel discarded, a pixel with no sprite, a pixel under a sprite pixel, and with the background off. -/
theorem test_witness_pixelOutput :
    let p : Ppu := { Ppu.reset [] [] with bgFifo := [3], lcdc := 0x93 }
    p.bgFifo = 3 :: [] ∧ 0 < ({ p with discard := 7 } : Ppu).discard ∧ p.discard = 0 ∧ p.lcdc.getLsbD 0 = true ∧ p.sprFifo = [] ∧
      ({ p with lcdc := 0x92 } : Ppu).lcdc.getLsbD 0 = false ∧
      ({ p with sprFifo := [{ colorIndex := 1, priority := false, palette := true }] } : Ppu).sprFifo ≠ [] := by decide +kernel

/-- WX = 166 at column 159, its last due column, and WX = 167, never due. -/
theorem test_witness_windowActivation :
    let p : Ppu := { Ppu.reset [] [] with lcdc := 0xA1, wx := 166, pixelX := 159 }
    p.windowActiveLine = false ∧ p.lcdc.getLsbD 5 = true ∧ (p.windowYTriggered || p.ly == p.wy) = true ∧
      p.wx.toNat ≤ p.pixelX + 7 ∧ ¬ ({ p with wx := 167 } : Ppu).wx.toNat ≤ p.pixelX + 7 := by decide +kernel

theorem test_witness_joypadPort : State.reset.ppu.dmaActive = false := by decide +kernel

/-- The end `endOf` computes is the end of the launch's run. -/
theorem test_run_end_is_end : ∃ t n, nopsThenEnd.EndsAt Init.zero n t ∧ t.cycles = 8 := by
  have h : (endOf nopsThenEnd 8).map State.cycles = some 8 := by decide +kernel
  obtain ⟨t, ht, hc⟩ := Option.map_eq_some_iff.1 h
  unfold endOf at ht
  cases hs : launch nopsThenEnd.request Init.zero with
  | next s =>
    rw [hs] at ht
    obtain ⟨n, -, he⟩ := State.firstEnd_eq_some.1 ht
    exact ⟨t, n, ⟨s, hs, he⟩, hc⟩
  | fault r => rw [hs] at ht; cases ht
  | refused r => rw [hs] at ht; cases ht

/-- Each check of a launch failing alone, and none failing. -/
theorem test_witness_launchChecks :
    ({ goodLaunch with kind := .unsupported 0x05 } : LaunchRequest).kind = .unsupported 0x05 ∧
      goodLaunch.kind = .supported .mbc1 ∧ (∃ n ∈ [0x4001], 0x4000 < n) ∧ (∀ n ∈ goodLaunch.fixedBankLengths, n ≤ 0x4000) ∧
      ({ goodLaunch with profile := .boot } : LaunchRequest).profile = .boot ∧
      ({ goodLaunch with profile := .boot } : LaunchRequest).boot = none ∧ goodLaunch.profile ≠ .boot := by
  refine ⟨rfl, rfl, by decide, by decide, rfl, rfl, by decide⟩

theorem test_witness_resetInvariant :
    Memory.wf Config.unwritten Config.wramSize [(0x1FFF, 0x01)] = true ∧ Memory.wf Config.unwritten Config.hramSize [(0x7E, 0xFF)] = true ∧
      Memory.wf Config.unwritten Config.genSize [(0xFF7F, 0xFF)] = true ∧
      Memory.wf Config.unwritten (1 * Config.ramBankSize) [(0x1FFF, 0xFF)] = true ∧
      Memory.wf Config.unwritten Config.vramSize [(0, 1), (0x1FFF, 2)] = true ∧
      Memory.wf Config.unwritten Config.oamSize [(159, 0x80)] = true := by decide +kernel

theorem test_witness_stepKeepsInvariant : idle.Inv ∧ (after 1 idle).isSome = true := by decide +kernel

theorem test_witness_stepKeepsLaunch :
    (after 1 idle).isSome = true ∧ idle.bootMapped = false ∧ (after 1 idle.lock).isSome = true ∧ idle.lock.locked = true := by
  decide +kernel

/-- A step that stops, and one that does not. -/
theorem test_witness_clockLaw :
    (after 1 (machine [0x10, 0x00] g0)).map State.stopped = some true ∧ (after 1 idle).map State.stopped = some false := by
  decide +kernel

end Sys2Proof.Tests
end

section
/-! SUPPORT. The pixel pipeline (spec/63_ppu_pipeline.md R560 to R590): what a Drawing T-cycle can do and what it leaves
unchanged, and the bounds it keeps. -/

namespace Sys2Proof.Machine

/-! ### The pixel pipeline: what a Drawing T-cycle changes -/

theorem Ppu.bgStep_eq (p : Ppu) : p.bgStep = { p with bg := p.bgStep.bg, bgFifo := p.bgStep.bgFifo } := by
  unfold Ppu.bgStep
  cases p.bg.state with
  | push => unfold Ppu.bgPush; dsimp only; split <;> rfl
  | getTile => dsimp only; split <;> rfl
  | getTileDataLow => dsimp only; split <;> rfl
  | getTileDataHigh => dsimp only; split <;> rfl

/-- What a T-cycle of an active sprite fetch can do (R571 to R574): it goes on, or it ends with the merge of its row. -/
theorem Ppu.spriteStep_cases (p : Ppu) :
    (∃ f : SpriteFetcher, p.spriteStep = { p with spr := f } ∧ f.active = p.spr.active ∧ f.entry = p.spr.entry) ∨
      ∃ e, p.spriteStep =
        { p with sprFifo := mergeSprites p.sprFifo (spriteRow p.spr.dataLow p.spr.dataHigh e),
                 spr := { p.spr with active := false } } := by
  unfold Ppu.spriteStep
  split
  · exact .inl ⟨p.spr, rfl, rfl, rfl⟩
  · rename_i e he
    split
    · rename_i hs
      exact .inr ⟨e, by simp [Ppu.spriteAction, hs]⟩
    · rename_i hs
      split
      · exact .inl ⟨_, rfl, rfl, rfl⟩
      · unfold Ppu.spriteAction
        split
        · exact .inl ⟨_, rfl, rfl, rfl⟩
        · exact .inl ⟨_, rfl, rfl, rfl⟩
        · exact .inl ⟨_, rfl, rfl, rfl⟩
        · exact absurd ‹_› hs

/-- What the fetcher action of a Drawing T-cycle can do (R561 item 2): a sprite fetch goes on or starts, or the background
fetcher acts. -/
theorem Ppu.fetchAction_cases (p : Ppu) :
    (p.spr.active = true ∧ p.fetchAction = p.spriteStep) ∨
      (p.sprFifo.length < 8 ∧ ∃ e, p.fetchAction = (p.startSpriteFetch e).spriteStep) ∨
      (p.spr.active = false ∧ p.fetchAction = p.bgStep) := by
  unfold Ppu.fetchAction
  split
  · exact .inl ⟨‹_›, rfl⟩
  · have ha : p.spr.active = false := by simpa using ‹¬ p.spr.active = true›
    split
    · split
      · exact .inr (.inl ⟨‹_›, _, rfl⟩)
      · exact .inr (.inr ⟨ha, rfl⟩)
    · exact .inr (.inr ⟨ha, rfl⟩)

theorem Ppu.spriteStep_eq (p : Ppu) :
    p.spriteStep = { p with spr := p.spriteStep.spr, sprFifo := p.spriteStep.sprFifo } := by
  obtain ⟨f, h, -⟩ | ⟨e, h⟩ := p.spriteStep_cases
  · rw [h]
  · rw [h]

theorem Ppu.fetchAction_eq (p : Ppu) :
    p.fetchAction = { p with bg := p.fetchAction.bg, bgFifo := p.fetchAction.bgFifo, spr := p.fetchAction.spr,
                             sprFifo := p.fetchAction.sprFifo } := by
  obtain ⟨-, h⟩ | ⟨-, e, h⟩ | ⟨-, h⟩ := p.fetchAction_cases
  · rw [h, p.spriteStep_eq]
  · rw [h, (p.startSpriteFetch e).spriteStep_eq]; rfl
  · rw [h, p.bgStep_eq]

theorem Ppu.windowCheck_eq (p : Ppu) :
    p.windowCheck = { p with bg := p.windowCheck.bg, bgFifo := p.windowCheck.bgFifo, discard := p.windowCheck.discard,
                             windowActiveLine := p.windowCheck.windowActiveLine,
                             windowYTriggered := p.windowCheck.windowYTriggered,
                             windowLine := p.windowCheck.windowLine } := by
  unfold Ppu.windowCheck
  dsimp only
  split <;> rfl

theorem Ppu.outputPixel_eq (p : Ppu) :
    p.outputPixel = { p with bgFifo := p.outputPixel.bgFifo, sprFifo := p.outputPixel.sprFifo,
                             discard := p.outputPixel.discard, frame := p.outputPixel.frame,
                             pixelX := p.outputPixel.pixelX } := by
  unfold Ppu.outputPixel
  split
  · rfl
  · split <;> rfl

/-- A Drawing T-cycle changes the fetchers, the FIFOs, the window and the output, nothing else. -/
theorem Ppu.drawTick_eq (p : Ppu) :
    p.drawTick = { p with bg := p.drawTick.bg, spr := p.drawTick.spr, bgFifo := p.drawTick.bgFifo,
                          sprFifo := p.drawTick.sprFifo, pixelX := p.drawTick.pixelX, discard := p.drawTick.discard,
                          windowActiveLine := p.drawTick.windowActiveLine,
                          windowYTriggered := p.drawTick.windowYTriggered, windowLine := p.drawTick.windowLine,
                          frame := p.drawTick.frame } := by
  have hf : p.windowCheck.fetchAction =
      { p with bg := p.windowCheck.fetchAction.bg, bgFifo := p.windowCheck.fetchAction.bgFifo,
               spr := p.windowCheck.fetchAction.spr, sprFifo := p.windowCheck.fetchAction.sprFifo,
               discard := p.windowCheck.discard, windowActiveLine := p.windowCheck.windowActiveLine,
               windowYTriggered := p.windowCheck.windowYTriggered, windowLine := p.windowCheck.windowLine } := by
    rw [p.windowCheck.fetchAction_eq, p.windowCheck_eq]
  unfold Ppu.drawTick
  dsimp only
  split
  · rw [hf]
  · rw [p.windowCheck.fetchAction.outputPixel_eq, hf]

/-! ### The pixel pipeline's bounds -/

/-- The part of `PipeInv` that a Drawing T-cycle keeps from one of its parts to the next. -/
def Ppu.PixelInv (p : Ppu) : Prop :=
  p.bgFifo.length ≤ 8 ∧ p.sprFifo.length ≤ 8 ∧
    (p.spr.active = true → p.spr.entry.isSome = true ∧ p.sprFifo.length < 8) ∧ p.discard ≤ 7 ∧ -1 ≤ p.windowLine

@[simp] theorem length_rowColors (low high : Byte) : (rowColors low high).length = 8 := rfl

@[simp] theorem length_spriteRow (low high : Byte) (e : OamEntry) : (spriteRow low high e).length = 8 := by
  unfold spriteRow
  dsimp only
  split <;> simp

@[simp] theorem length_mergeSprites (fifo new : List SpritePixel) :
    (mergeSprites fifo new).length = max fifo.length new.length := by
  induction fifo generalizing new with
  | nil => simp [mergeSprites]
  | cons f fs ih =>
    cases new with
    | nil => simp [mergeSprites]
    | cons n ns => simp [mergeSprites, ih]

theorem Ppu.PixelInv.windowCheck {p : Ppu} (h : p.PixelInv) : p.windowCheck.PixelInv := by
  obtain ⟨hb, hs, ha, hd, hw⟩ := h
  unfold Ppu.windowCheck
  dsimp only
  split
  · exact ⟨by simp [Ppu.activateWindow], hs, ha, by simp [Ppu.activateWindow],
      show -1 ≤ p.windowLine + 1 by omega⟩
  · exact ⟨hb, hs, ha, hd, hw⟩

theorem Ppu.bgStep_bgFifo (p : Ppu) : p.bgStep.bgFifo = p.bgFifo ∨ p.bgStep.bgFifo.length = 8 := by
  unfold Ppu.bgStep
  cases p.bg.state with
  | push =>
    unfold Ppu.bgPush
    dsimp only
    split
    · exact .inr (length_rowColors _ _)
    · exact .inl rfl
  | getTile => dsimp only; split <;> exact .inl rfl
  | getTileDataLow => dsimp only; split <;> exact .inl rfl
  | getTileDataHigh => dsimp only; split <;> exact .inl rfl

theorem Ppu.PixelInv.bgStep {p : Ppu} (h : p.PixelInv) : p.bgStep.PixelInv := by
  obtain ⟨hb, hs, ha, hd, hw⟩ := h
  have hl : p.bgStep.bgFifo.length ≤ 8 := by
    obtain hq | hq := p.bgStep_bgFifo
    · rwa [hq]
    · exact Nat.le_of_eq hq
  rw [p.bgStep_eq]
  exact ⟨hl, hs, ha, hd, hw⟩

theorem Ppu.PixelInv.spriteStep {p : Ppu} (h : p.PixelInv) : p.spriteStep.PixelInv := by
  obtain ⟨hb, hs, ha, hd, hw⟩ := h
  obtain ⟨f, hq, hfa, hfe⟩ | ⟨e, hq⟩ := p.spriteStep_cases
  · rw [hq]
    exact ⟨hb, hs, fun hf => hfe ▸ ha (hfa ▸ hf), hd, hw⟩
  · rw [hq]
    refine ⟨hb, ?_, fun hf => Bool.noConfusion hf, hd, hw⟩
    show (mergeSprites _ _).length ≤ 8
    simp [hs]

theorem Ppu.PixelInv.fetchAction {p : Ppu} (h : p.PixelInv) : p.fetchAction.PixelInv := by
  obtain ⟨-, hq⟩ | ⟨hl, e, hq⟩ | ⟨-, hq⟩ := p.fetchAction_cases
  · rw [hq]; exact h.spriteStep
  · obtain ⟨hb, hs, -, hd, hw⟩ := h
    have hi : (p.startSpriteFetch e).PixelInv := ⟨hb, hs, fun _ => ⟨rfl, hl⟩, hd, hw⟩
    rw [hq]; exact hi.spriteStep
  · rw [hq]; exact h.bgStep

/-- The output of a Drawing T-cycle happens with no sprite fetch active (R561 item 3). -/
theorem Ppu.PixelInv.outputPixel {p : Ppu} (h : p.PixelInv) (hidle : p.spr.active = false) : p.outputPixel.PixelInv := by
  obtain ⟨hb, hs, ha, hd, hw⟩ := h
  unfold Ppu.outputPixel
  split
  · exact ⟨hb, hs, ha, hd, hw⟩
  · rename_i b rest hfifo
    have hr : rest.length ≤ 8 := by rw [hfifo, List.length_cons] at hb; omega
    split
    · exact ⟨hr, hs, ha, show p.discard - 1 ≤ 7 by omega, hw⟩
    · refine ⟨hr, ?_, fun hact => absurd hact (by simp [Ppu.emitPixel, hidle]), hd, hw⟩
      show p.sprFifo.tail.length ≤ 8
      rw [List.length_tail]; omega

theorem Ppu.PixelInv.drawTick {p : Ppu} (h : p.PixelInv) : p.drawTick.PixelInv := by
  have hf := h.windowCheck.fetchAction
  unfold Ppu.drawTick
  dsimp only
  split
  · exact hf
  · exact hf.outputPixel (by simpa using ‹¬ p.windowCheck.fetchAction.spr.active = true›)

/-- What the output of a Drawing T-cycle does to the column and the frame (R580, R581): nothing, or one more pixel. -/
theorem Ppu.outputPixel_frame (p : Ppu) :
    (p.outputPixel.pixelX = p.pixelX ∧ p.outputPixel.frame = p.frame) ∨
      (p.outputPixel.pixelX = p.pixelX + 1 ∧
        ∃ v, p.outputPixel.frame = cellSet 0 p.frame (frameIndex p.ly.toNat p.pixelX) v) := by
  unfold Ppu.outputPixel
  split
  · exact .inl ⟨rfl, rfl⟩
  · split
    · exact .inl ⟨rfl, rfl⟩
    · exact .inr ⟨rfl, _, rfl⟩

theorem Ppu.drawTick_frame (p : Ppu) :
    (p.drawTick.pixelX = p.pixelX ∧ p.drawTick.frame = p.frame) ∨
      (p.drawTick.pixelX = p.pixelX + 1 ∧
        ∃ v, p.drawTick.frame = cellSet 0 p.frame (frameIndex p.ly.toNat p.pixelX) v) := by
  have hx : p.windowCheck.fetchAction.pixelX = p.pixelX := by
    rw [p.windowCheck.fetchAction_eq, p.windowCheck_eq]
  have hy : p.windowCheck.fetchAction.ly = p.ly := by
    rw [p.windowCheck.fetchAction_eq, p.windowCheck_eq]
  have hf : p.windowCheck.fetchAction.frame = p.frame := by
    rw [p.windowCheck.fetchAction_eq, p.windowCheck_eq]
  have h := p.windowCheck.fetchAction.outputPixel_frame
  rw [hx, hy, hf] at h
  unfold Ppu.drawTick
  dsimp only
  split
  · exact .inl ⟨hx, hf⟩
  · exact h

end Sys2Proof.Machine
end

section
/-! SUPPORT. What the devices keep: the mode sequencer, the PPU's registers, the DMA engine, the Timer and the cartridge, and
with them every bus write and every catch-up. -/

namespace Sys2Proof.Machine

/-! ### The PPU's invariant -/

/-- The PPU's part of `MemInv`: VRAM, OAM and the frame. -/
def Ppu.StoreInv (p : Ppu) : Prop :=
  Memory.wf Config.unwritten Config.vramSize p.vram = true ∧ Memory.wf Config.unwritten Config.oamSize p.oam = true ∧
    cellsWf (0 : BitVec 2) (Config.screenWidth * Config.screenHeight) p.frame = true

/-- What the PPU keeps through every part of a T-cycle, the line and the mode apart. -/
def Ppu.Held (p : Ppu) : Prop :=
  p.PipeInv ∧ p.StoreInv

/-- The PPU's part of the machine's invariants. -/
def Ppu.Inv (p : Ppu) : Prop :=
  p.ModeInv ∧ p.Held

theorem Ppu.ModeInv.ly_of_visible {p : Ppu} (h : p.ModeInv) (hm : p.mode ≠ .vblank) : p.ly.toNat < 144 := by
  obtain ⟨-, -, hv, -⟩ := h
  exact Nat.lt_of_not_le fun hl => hm (hv.2 hl)

theorem Ppu.modeInv_hblank {p : Ppu} (hon : p.lcdc.getLsbD 7 = true) (hm : p.mode = .hblank) (hl : p.ly.toNat < 144) :
    p.ModeInv := by
  simp only [Ppu.ModeInv, hon, hm, reduceCtorEq, false_iff, false_implies, true_and, and_true]
  exact ⟨by omega, by omega⟩

theorem Ppu.modeInv_vblank {p : Ppu} (hon : p.lcdc.getLsbD 7 = true) (hm : p.mode = .vblank) (hl : 144 ≤ p.ly.toNat)
    (hl' : p.ly.toNat ≤ 153) (hc : p.lineCycles < Config.lineLength) : p.ModeInv := by
  simp only [Ppu.ModeInv, hon, hm, reduceCtorEq, false_implies, true_iff, true_implies, true_and]
  exact ⟨hl', hl, hc⟩

theorem Ppu.modeInv_search {p : Ppu} (hon : p.lcdc.getLsbD 7 = true) (hm : p.mode = .oamSearch) (hl : p.ly.toNat < 144)
    (hc : p.lineCycles < Config.oamSearchLength) : p.ModeInv := by
  simp only [Ppu.ModeInv, hon, hm, reduceCtorEq, false_iff, false_implies, true_implies, true_and, and_true]
  exact ⟨by omega, by omega, hc⟩

theorem Ppu.modeInv_drawing {p : Ppu} (hon : p.lcdc.getLsbD 7 = true) (hm : p.mode = .drawing) (hl : p.ly.toNat < 144)
    (hc : Config.oamSearchLength ≤ p.lineCycles) : p.ModeInv := by
  simp only [Ppu.ModeInv, hon, hm, reduceCtorEq, false_iff, false_implies, true_implies, true_and, and_true]
  exact ⟨by omega, by omega, hc⟩

/-! ### What each part of the mode sequencer keeps -/

theorem Ppu.Held.idle {p : Ppu} (h : p.Held) (hm : p.mode ≠ .drawing) : p.spr.active = false := by
  obtain ⟨⟨-, -, -, -, ha, -⟩, -⟩ := h
  exact Bool.eq_false_iff.2 fun hact => hm (ha hact).1

theorem Ppu.Held.withMode {p : Ppu} (h : p.Held) (hs : p.spr.active = false) (m : Mode) : Ppu.Held { p with mode := m } := by
  obtain ⟨⟨hn, hc, hb, hf, -, hx, hd, hw, hi, hsrc⟩, hst⟩ := h
  exact ⟨⟨hn, hc, hb, hf, fun hact => absurd hact (by simp [hs]), hx, hd, hw, hi, hsrc⟩, hst⟩

theorem Ppu.Held.resetPipeline {p : Ppu} (h : p.Held) : p.resetPipeline.Held := by
  obtain ⟨⟨hn, hc, -, -, -, -, -, hw, hi, hsrc⟩, hst⟩ := h
  exact ⟨⟨hn, hc, Nat.zero_le _, Nat.zero_le _, fun hact => Bool.noConfusion hact, show 0 < 160 by decide,
    show p.scx.toNat % 8 ≤ 7 by omega, hw, hi, hsrc⟩, hst⟩

theorem Ppu.Held.clearOamBuffer {p : Ppu} (h : p.Held) : p.clearOamBuffer.Held := by
  obtain ⟨⟨-, -, hrest⟩, hst⟩ := h
  exact ⟨⟨rfl, Nat.zero_le _, hrest⟩, hst⟩

theorem Ppu.Held.resetWindow {p : Ppu} (h : p.Held) : p.resetWindow.Held := by
  obtain ⟨⟨hn, hc, hb, hf, ha, hx, hd, -, hi, hsrc⟩, hst⟩ := h
  exact ⟨⟨hn, hc, hb, hf, ha, hx, hd, Int.le_refl _, hi, hsrc⟩, hst⟩

theorem Ppu.Held.evalEntry {p : Ppu} (h : p.Held) (i : Nat) : (p.evalEntry i).Held := by
  unfold Ppu.evalEntry
  dsimp only
  split
  · rename_i hq
    obtain ⟨⟨hn, -, hrest⟩, hst⟩ := h
    have hroom : p.oamCount < Config.maxSprites := by
      simp only [Ppu.qualifies, Bool.and_eq_true, decide_eq_true_eq] at hq
      exact hq.2
    exact ⟨⟨by simp [hn], hroom, hrest⟩, hst⟩
  · exact h

@[simp] theorem length_insertByX (e : OamEntry) (es : List OamEntry) : (insertByX e es).length = es.length + 1 := by
  induction es with
  | nil => rfl
  | cons f fs ih =>
    unfold insertByX
    split
    · rfl
    · simp [ih]

@[simp] theorem length_sortByX (es : List OamEntry) : (sortByX es).length = es.length := by
  induction es with
  | nil => rfl
  | cons e rest ih => simp [sortByX, ih]

theorem Ppu.Held.sorted {p : Ppu} (h : p.Held) : Ppu.Held { p with oamBuffer := sortByX p.oamBuffer } := by
  obtain ⟨⟨hn, hrest⟩, hst⟩ := h
  exact ⟨⟨by simp [hn], hrest⟩, hst⟩

/-- A Drawing T-cycle on a visible line keeps all of it but the column, which may reach 160 (R525); so it is stated for any
column in range. -/
theorem Ppu.Held.drawTick {p : Ppu} (h : p.Held) (hm : p.mode = .drawing) (hl : p.ly.toNat < 144) {x : Nat}
    (hx : x < Config.screenWidth) : Ppu.Held { p.drawTick with pixelX := x } := by
  obtain ⟨⟨hn, hc, hb, hf, ha, hp, hd, hw, hi, hsrc⟩, hv, ho, hframe⟩ := h
  have hpix : p.PixelInv := ⟨hb, hf, fun hact => (ha hact).2, hd, hw⟩
  obtain ⟨hb', hf', ha', hd', hw'⟩ := hpix.drawTick
  have hframe' : cellsWf (0 : BitVec 2) (Config.screenWidth * Config.screenHeight) p.drawTick.frame = true := by
    obtain ⟨-, hq⟩ | ⟨-, v, hq⟩ := p.drawTick_frame
    · rwa [hq]
    · rw [hq]
      refine cellsWf_cellSet hframe ?_ v
      simp only [frameIndex, Config.screenWidth, Config.screenHeight] at hp ⊢
      omega
  rw [p.drawTick_eq]
  exact ⟨⟨hn, hc, hb', hf', fun hact => ⟨hm, ha' hact⟩, hx, hd', hw', hi, hsrc⟩, hv, ho, hframe'⟩

theorem Ppu.drawTick_pixelX_le (p : Ppu) : p.drawTick.pixelX ≤ p.pixelX + 1 := by
  obtain ⟨hq, -⟩ | ⟨hq, -⟩ := p.drawTick_frame <;> omega

/-- LY set by the PPU: LY and the coincidence flag change, nothing else (R524). -/
theorem Ppu.setLy_fst (p : Ppu) (v : Byte) : (p.setLy v).1 = { p with ly := v, coincidence := decide (v = p.lyc) } := by
  unfold Ppu.setLy Ppu.compareLyc
  split
  · rename_i h; simp only [decide_eq_true (show v = p.lyc from h)]
  · rename_i h; simp only [decide_eq_false (show ¬ v = p.lyc from h)]

/-! ### The mode sequencer keeps the PPU's invariant -/

theorem Ppu.startLine_inv {p : Ppu} (h : p.Held) (hs : p.spr.active = false) (hon : p.lcdc.getLsbD 7 = true)
    (hl : p.ly.toNat < 144) (hc : p.lineCycles = 0) : p.startLine.1.Inv :=
  ⟨Ppu.modeInv_search hon rfl hl (show p.lineCycles < 80 by omega), h.clearOamBuffer.withMode hs _⟩

theorem Ppu.enterVblank_inv {p : Ppu} (h : p.Held) (hs : p.spr.active = false) (hon : p.lcdc.getLsbD 7 = true)
    (hl : p.ly = 144) (hc : p.lineCycles = 0) : p.enterVblank.1.Inv :=
  ⟨Ppu.modeInv_vblank hon rfl (show 144 ≤ p.ly.toNat by simp [hl]) (show p.ly.toNat ≤ 153 by simp [hl])
    (show p.lineCycles < 456 by omega), (h.withMode hs .vblank).resetWindow⟩

theorem Ppu.oamSearchTick_inv {p : Ppu} (h : p.Held) (hon : p.lcdc.getLsbD 7 = true) (hm : p.mode = .oamSearch)
    (hl : p.ly.toNat < 144) (hc : p.lineCycles ≤ Config.oamSearchLength) : p.oamSearchTick.1.Inv := by
  have eval : ∀ q : Ppu, q.Held → q.lcdc = p.lcdc → q.mode = p.mode → q.ly = p.ly → q.lineCycles = p.lineCycles →
      (if q.lineCycles = Config.oamSearchLength then q.endOamSearch else (q, 0)).1.Inv := by
    intro q hq hlcdc hmode hly hcyc
    split
    · rename_i hend
      exact ⟨Ppu.modeInv_drawing (hlcdc ▸ hon) rfl (hly ▸ hl) (Nat.le_of_eq hend.symm),
        hq.sorted.resetPipeline.withMode rfl .drawing⟩
    · exact ⟨Ppu.modeInv_search (hlcdc ▸ hon) (hmode ▸ hm) (hly ▸ hl)
        (show q.lineCycles < Config.oamSearchLength by omega), hq⟩
  unfold Ppu.oamSearchTick
  dsimp only
  split
  · refine eval _ (h.evalEntry _) ?_ ?_ ?_ ?_ <;> unfold Ppu.evalEntry <;> dsimp only <;> split <;> rfl
  · exact eval p h rfl rfl rfl rfl

theorem Ppu.drawingTick_inv {p : Ppu} (h : p.Held) (hon : p.lcdc.getLsbD 7 = true) (hm : p.mode = .drawing)
    (hl : p.ly.toNat < 144) (hc : Config.oamSearchLength ≤ p.lineCycles) : p.drawingTick.1.Inv := by
  have hx : p.pixelX < Config.screenWidth := by
    obtain ⟨⟨-, -, -, -, -, hx, -⟩, -⟩ := h
    exact hx
  have hle := p.drawTick_pixelX_le
  have hlcdc : p.drawTick.lcdc = p.lcdc := by rw [p.drawTick_eq]
  have hmode : p.drawTick.mode = p.mode := by rw [p.drawTick_eq]
  have hly : p.drawTick.ly = p.ly := by rw [p.drawTick_eq]
  have hcyc : p.drawTick.lineCycles = p.lineCycles := by rw [p.drawTick_eq]
  unfold Ppu.drawingTick
  dsimp only
  split
  · exact ⟨Ppu.modeInv_hblank (hlcdc ▸ hon) rfl (hly ▸ hl),
      (h.drawTick hm hl (x := 0) (by decide)).resetPipeline.withMode rfl .hblank⟩
  · exact ⟨Ppu.modeInv_drawing (hlcdc ▸ hon) (hmode ▸ hm) (hly ▸ hl) (hcyc ▸ hc),
      h.drawTick hm hl (x := p.drawTick.pixelX) (by omega)⟩

theorem Ppu.hblankTick_inv {p : Ppu} (h : p.Held) (hon : p.lcdc.getLsbD 7 = true) (hm : p.mode = .hblank)
    (hl : p.ly.toNat < 144) : p.hblankTick.1.Inv := by
  have hs : p.spr.active = false := h.idle (by simp [hm])
  unfold Ppu.hblankTick
  split
  · unfold Ppu.endVisibleLine
    dsimp only
    rw [Ppu.setLy_fst]
    split
    · rename_i he
      exact Ppu.enterVblank_inv h hs hon he rfl
    · rename_i he
      refine Ppu.startLine_inv h hs hon ?_ rfl
      show (p.ly + 1).toNat < 144
      have hne : (p.ly + 1).toNat ≠ 144 := fun hn => he (BitVec.eq_of_toNat_eq hn)
      rw [BitVec.toNat_add] at hne ⊢
      have h1 : (1 : Byte).toNat = 1 := rfl
      omega
  · exact ⟨Ppu.modeInv_hblank hon hm hl, h⟩

theorem Ppu.vblankTick_inv {p : Ppu} (h : p.Held) (hon : p.lcdc.getLsbD 7 = true) (hm : p.mode = .vblank)
    (hl : 144 ≤ p.ly.toNat) (hl' : p.ly.toNat ≤ 153) : p.vblankTick.1.Inv := by
  have hs : p.spr.active = false := h.idle (by simp [hm])
  unfold Ppu.vblankTick
  split
  · dsimp only
    split
    · rename_i hlast
      rw [Ppu.setLy_fst]
      have hnext : (p.ly + 1).toNat = p.ly.toNat + 1 := by
        have h1 : (1 : Byte).toNat = 1 := rfl
        rw [BitVec.toNat_add]; omega
      exact ⟨Ppu.modeInv_vblank hon hm (show 144 ≤ (p.ly + 1).toNat by omega) (show (p.ly + 1).toNat ≤ 153 by omega)
        (show 0 < 456 by decide), h⟩
    · unfold Ppu.endFrame
      dsimp only
      rw [Ppu.setLy_fst]
      exact Ppu.startLine_inv h hs hon (show (0 : Byte).toNat < 144 by decide) rfl
  · exact ⟨Ppu.modeInv_vblank hon hm hl hl' (show p.lineCycles < Config.lineLength by omega), h⟩

/-- A T-cycle of the sequencer keeps the PPU's invariant, whatever the mode. -/
theorem Ppu.Inv.sequencerTick {p : Ppu} (h : p.Inv) : p.sequencerTick.1.Inv := by
  unfold Ppu.sequencerTick
  split
  · rename_i hon
    obtain ⟨hmode, hheld⟩ := h
    have hvis := Ppu.ModeInv.ly_of_visible hmode
    obtain ⟨-, hly, hv, hsearch, hdraw, -⟩ := hmode
    unfold Ppu.modeTick
    dsimp only
    split
    · rename_i hm
      exact Ppu.oamSearchTick_inv hheld hon hm (hvis (by simp [hm])) (hsearch hm)
    · rename_i hm
      exact Ppu.drawingTick_inv hheld hon hm (hvis (by simp [hm])) (Nat.le_succ_of_le (hdraw hm))
    · rename_i hm
      exact Ppu.hblankTick_inv hheld hon hm (hvis (by simp [hm]))
    · rename_i hm
      exact Ppu.vblankTick_inv hheld hon hm (hv.1 hm) hly
  · exact h

/-! ### The PPU's registers and memories keep its invariant -/

/-- LCD off: HBlank, LY 0 and `lineCycles` 0 are legal whatever LCDC says (R531, R533). -/
theorem Ppu.modeInv_start {p : Ppu} (hm : p.mode = .hblank) (hl : p.ly = 0) (hc : p.lineCycles = 0) : p.ModeInv := by
  simp [Ppu.ModeInv, hm, hl, hc]

theorem Ppu.Inv.writeLcdc {p : Ppu} (h : p.Inv) (v : Byte) : (p.writeLcdc v).1.Inv := by
  obtain ⟨⟨hoff, hrest⟩, hheld⟩ := h
  unfold Ppu.writeLcdc
  dsimp only
  split
  · unfold Ppu.lcdDisable
    dsimp only
    rw [Ppu.setLy_fst]
    exact ⟨Ppu.modeInv_start rfl rfl rfl, (hheld.resetPipeline.withMode rfl .hblank).clearOamBuffer.resetWindow⟩
  · split
    · rename_i hturn
      simp only [Bool.and_eq_true, Bool.not_eq_true'] at hturn
      obtain ⟨hwas, hnow⟩ := hturn
      obtain ⟨hm, hly, -⟩ := hoff hwas
      exact ⟨Ppu.modeInv_search hnow rfl (show p.ly.toNat < 144 by simp [hly]) (show 0 < 80 by decide),
        hheld.clearOamBuffer.withMode (hheld.idle (by simp [hm])) .oamSearch⟩
    · rename_i hdown hup
      have hsame : v.getLsbD 7 = p.lcdc.getLsbD 7 := by
        cases hp : p.lcdc.getLsbD 7 <;> cases hv : v.getLsbD 7 <;> simp_all
      exact ⟨⟨fun hv => hoff (hsame ▸ hv), hrest⟩, hheld⟩

theorem Ppu.Inv.startDma {p : Ppu} (h : p.Inv) (v : Byte) : (p.startDma v).Inv := by
  obtain ⟨hmode, ⟨hn, hc, hb, hf, ha, hx, hd, hw, -, -⟩, hst⟩ := h
  refine ⟨hmode, ⟨hn, hc, hb, hf, ha, hx, hd, hw, fun _ => show 0 < 160 by decide, ?_⟩, hst⟩
  have hpage : (if v.toNat ≤ 0xDF then v else 0xDF).toNat ≤ 0xDF := by
    split
    · assumption
    · decide
  show (wordOf (if v.toNat ≤ 0xDF then v else 0xDF) 0).toNat ≤ 0xDF00
  have h0 : (0 : Byte).toNat = 0 := rfl
  rw [toNat_wordOf]
  omega

theorem Ppu.Inv.writeReg {p : Ppu} (h : p.Inv) (a : Nat) (v : Byte) : (p.writeReg a v).1.Inv := by
  unfold Ppu.writeReg
  refine ite_elim (P := fun q : Ppu × Irq => q.1.Inv) (fun _ => h.writeLcdc v) fun _ => ?_
  iterate 5 refine ite_elim (P := fun q : Ppu × Irq => q.1.Inv) (fun _ => h) fun _ => ?_
  refine ite_elim (P := fun q : Ppu × Irq => q.1.Inv) (fun _ => h.startDma v) fun _ => ?_
  iterate 4 refine ite_elim (P := fun q : Ppu × Irq => q.1.Inv) (fun _ => h) fun _ => ?_
  exact h

/-- A byte of OAM stored, by the CPU or by the DMA engine. -/
theorem Ppu.Inv.storeOam {p : Ppu} (h : p.Inv) {k : Nat} (hk : k < Config.oamSize) (v : Byte) :
    Ppu.Inv { p with oam := memSet p.oam k v } := by
  obtain ⟨hmode, hpipe, hv, ho, hf⟩ := h
  exact ⟨hmode, hpipe, hv, Memory.wf_memSet ho hk v, hf⟩

theorem Ppu.Inv.writeOam {p : Ppu} (h : p.Inv) {a : Nat} (hlo : 0xFE00 ≤ a) (hhi : a ≤ 0xFE9F) (v : Byte) :
    (p.writeOam a v).Inv := by
  unfold Ppu.writeOam
  split
  · exact h
  · exact h.storeOam (by simp only [Config.oamSize]; omega) v

theorem Ppu.Inv.writeVram {p : Ppu} (h : p.Inv) {a : Nat} (hlo : 0x8000 ≤ a) (hhi : a ≤ 0x9FFF) (v : Byte) :
    (p.writeVram a v).Inv := by
  unfold Ppu.writeVram
  split
  · exact h
  · obtain ⟨hmode, hpipe, hv, ho, hf⟩ := h
    exact ⟨hmode, hpipe, Memory.wf_memSet hv (by simp only [Config.vramSize]; omega) v, ho, hf⟩

/-! ### The Timer keeps its invariant -/

theorem Timer.reloadStep_countdown_le (t : Timer) (h : t.reloadCountdown ≤ 4) : t.reloadStep.reloadCountdown ≤ 4 := by
  unfold Timer.reloadStep
  split
  · exact h
  · split
    · exact Nat.zero_le 4
    · show t.reloadCountdown - 1 ≤ 4
      omega

theorem Timer.increment_countdown_le (t : Timer) (h : t.reloadCountdown ≤ 4) : t.increment.1.reloadCountdown ≤ 4 := by
  unfold Timer.increment
  split
  · exact Nat.le_refl 4
  · exact h

theorem Timer.tick_countdown_le (t : Timer) (h : t.reloadCountdown ≤ 4) : t.tick.1.reloadCountdown ≤ 4 := by
  have hr := t.reloadStep_countdown_le h
  unfold Timer.tick Timer.edgeStep
  dsimp only
  split
  · exact Timer.increment_countdown_le _ hr
  · exact hr

theorem Timer.ticks_countdown_le (n : Nat) (t : Timer) (h : t.reloadCountdown ≤ 4) :
    (Timer.ticks n t).1.reloadCountdown ≤ 4 := by
  induction n generalizing t with
  | zero => exact h
  | succ k ih => exact ih t.tick.1 (t.tick_countdown_le h)

theorem Timer.write_countdown_le (t : Timer) (a : Nat) (v : Byte) (h : t.reloadCountdown ≤ 4) :
    (t.write a v).reloadCountdown ≤ 4 := by
  unfold Timer.write
  split
  · exact h
  · split
    · exact Nat.zero_le 4
    · split
      · exact h
      · exact h

/-! ### The cartridge keeps its RAM's canonical form -/

theorem Cartridge.write_cram_wf (c : Cartridge) (a : Nat) (v : Byte)
    (h : Memory.wf Config.unwritten c.cramSize c.cram = true) :
    Memory.wf Config.unwritten (c.write a v).cramSize (c.write a v).cram = true := by
  have hset : ∀ k, Memory.wf Config.unwritten (c.cramSet k v).cramSize (c.cramSet k v).cram = true := by
    intro k
    unfold Cartridge.cramSet
    split
    · exact Memory.wf_memSet h ‹_› v
    · exact h
  unfold Cartridge.write
  split
  · exact h
  · unfold Cartridge.writeMbc1
    iterate 4
      split
      · exact h
    split
    · exact hset _
    · exact h

/-! ### The machine's memories and devices -/

/-- The machine's invariants but for the CPU's: those that speak of memories and devices only. -/
def State.DeviceInv (s : State) : Prop :=
  s.TimerInv ∧ s.CartInv ∧ Memory.wf Config.unwritten Config.wramSize s.wram = true ∧
    Memory.wf Config.unwritten Config.hramSize s.hram = true ∧ Memory.wf Config.unwritten Config.genSize s.gen = true ∧
    Memory.wf Config.unwritten s.cart.cramSize s.cart.cram = true ∧ s.ppu.Inv

theorem State.deviceInv_iff (s : State) :
    s.DeviceInv ↔ s.TimerInv ∧ s.MemInv ∧ s.CartInv ∧ s.ppu.ModeInv ∧ s.ppu.PipeInv := by
  unfold State.DeviceInv Ppu.Inv Ppu.Held Ppu.StoreInv
  constructor
  · rintro ⟨ht, hc, hw, hh, hg, hr, hm, hp, hv, ho, hf⟩
    exact ⟨ht, ⟨hw, hh, hg, hr, hv, ho, hf⟩, hc, hm, hp⟩
  · rintro ⟨ht, ⟨hw, hh, hg, hr, hv, ho, hf⟩, hc, hm, hp⟩
    exact ⟨ht, hc, hw, hh, hg, hr, hm, hp, hv, ho, hf⟩

theorem State.DeviceInv.withPpu {s : State} (h : s.DeviceInv) {p : Ppu} (hp : p.Inv) : State.DeviceInv { s with ppu := p } := by
  obtain ⟨ht, hc, hw, hh, hg, hr, -⟩ := h
  exact ⟨ht, hc, hw, hh, hg, hr, hp⟩

theorem State.DeviceInv.withTimer {s : State} (h : s.DeviceInv) {t : Timer} (ht : t.reloadCountdown ≤ 4) :
    State.DeviceInv { s with timer := t } := by
  obtain ⟨-, hrest⟩ := h
  exact ⟨ht, hrest⟩

theorem State.DeviceInv.writeCart {s : State} (h : s.DeviceInv) (a : Nat) (v : Byte) : (s.writeCart a v).DeviceInv := by
  obtain ⟨ht, hc, hw, hh, hg, hr, hp⟩ := h
  obtain ⟨-, -, hbanks, -, -⟩ := s.cart.write_launch a v
  rw [State.writeCart_eq]
  exact ⟨ht, show 2 ≤ (s.cart.write a v).romBanks by rwa [hbanks], hw, hh, hg, s.cart.write_cram_wf a v hr, hp⟩

theorem State.DeviceInv.store {s : State} (h : s.DeviceInv) {a : Nat} (v : Byte) (ha : a < 0x10000) :
    (s.store a v).DeviceInv := by
  have hcart := h.writeCart a v
  obtain ⟨ht, hc, hw, hh, hg, hr, hp⟩ := id h
  refine State.store_elim (P := State.DeviceInv) s v ha (fun _ => hcart) ?_ ?_ ?_ ?_ ?_ ?_ ?_ ?_ ?_ ?_ ?_
  · exact fun k hk => ⟨ht, hc, Memory.wf_memSet hw hk v, hh, hg, hr, hp⟩
  · exact fun k hk => ⟨ht, hc, hw, Memory.wf_memSet hh hk v, hg, hr, hp⟩
  · exact h.withPpu (hp.writeReg a v)
  · exact fun hlo hhi => h.withPpu (hp.writeOam hlo hhi v)
  · exact fun hlo hhi => h.withPpu (hp.writeVram hlo hhi v)
  · exact h.withTimer (s.timer.write_countdown_le a v ht)
  · exact h
  · exact h
  · exact h
  · exact h
  · exact ⟨ht, hc, hw, hh, Memory.wf_memSet hg ha v, hr, hp⟩

theorem State.DeviceInv.write {s : State} (h : s.DeviceInv) (a : Word) (v : Byte) : (s.write a v).DeviceInv := by
  unfold State.write
  split
  · exact h
  · exact h.store v a.isLt

/-- One byte of a running OAM DMA (R546): the index is in range, and the transfer ends at 160. -/
theorem State.DeviceInv.dmaStep {s : State} (h : s.DeviceInv) (hact : s.ppu.dmaActive = true) : s.dmaStep.DeviceInv := by
  have hppu : s.ppu.Inv := by
    obtain ⟨-, -, -, -, -, -, hp⟩ := h
    exact hp
  obtain ⟨hmode, ⟨hn, hc, hb, hf, ha, hx, hd, hw, hi, hsrc⟩, hst⟩ := id hppu
  have hk := hi hact
  obtain ⟨-, -, hst'⟩ := hppu.storeOam hk (s.busRead true (s.ppu.dmaSource + BitVec.ofNat 16 s.ppu.dmaIndex))
  refine h.withPpu ⟨hmode, ⟨hn, hc, hb, hf, ha, hx, hd, hw, fun hgo => ?_, hsrc⟩, hst'⟩
  have hne : s.ppu.dmaIndex + 1 ≠ Config.oamSize := by simpa using hgo
  show s.ppu.dmaIndex + 1 < Config.oamSize
  omega

theorem State.DeviceInv.ppuTick {s : State} (h : s.DeviceInv) : s.ppuTick.DeviceInv := by
  have htick : ∀ t : State, t.DeviceInv → State.DeviceInv { t with ppu := t.ppu.sequencerTick.1 } := by
    intro t ht
    obtain ⟨-, -, -, -, -, -, hp⟩ := id ht
    exact ht.withPpu hp.sequencerTick
  unfold State.ppuTick
  dsimp only
  split
  · exact htick _ (h.dmaStep ‹_›)
  · exact htick _ h

theorem State.DeviceInv.ppuTicks (n : Nat) {s : State} (h : s.DeviceInv) : (State.ppuTicks n s).DeviceInv := by
  induction n generalizing s with
  | zero => exact h
  | succ k ih => exact ih h.ppuTick

theorem State.DeviceInv.catchUp {s : State} (h : s.DeviceInv) : s.catchUp.DeviceInv := by
  have hppu : s.ppuUpdate.DeviceInv := h.ppuTicks (s.cycles - s.ppuLast).toNat
  obtain ⟨ht, -⟩ := id hppu
  exact hppu.withTimer (Timer.ticks_countdown_le _ _ ht)

end Sys2Proof.Machine
end

section
/-! SUPPORT. The step: what the CPU keeps, what a marked step does to the Clock, and what no step changes. O58 and O59. -/

namespace Sys2Proof.Machine

/-! ### Every operation of a step keeps the CPU's and the devices' invariants -/

theorem State.countdown_stopped (s : State) : s.countdown.stopped = s.stopped := by
  unfold State.countdown
  split
  · rfl
  · split <;> rfl

theorem State.deviceInv_closed : Closed State.DeviceInv where
  set8 _ _ _ h := h
  set16 _ _ _ _ h := h
  setAf _ _ h := h
  setFlags _ _ h := h
  setPc _ _ h := h
  tick _ _ _ h := h
  write _ a v h := h.write a v
  setIme _ _ h := h
  armIme _ h := h
  clearIme _ h := h
  setHalt _ _ _ h := h
  lock _ h := h
  refuse _ _ h := h
  acknowledge _ _ h := h
  countdown s h := by
    unfold State.countdown
    split
    · exact h
    · split <;> exact h
  catchUp _ h := h.catchUp

/-- POP AF masks the low byte it loads (R236), so F keeps its low bits 0. -/
theorem loByte_mask_low (v : Word) : loByte (v &&& 0xFFF0) &&& 0x0F = 0 := by
  unfold loByte
  ext i hi
  interval_cases i <;> simp

theorem State.cpuInv_closed : Closed State.CpuInv where
  set8 s r v h := by simpa [State.CpuInv] using h
  set16 s rr v hr h := by simpa [State.CpuInv, Regs.set16_f, hr] using h
  setAf s v h := ⟨loByte_mask_low v, h.2⟩
  setFlags s f h := ⟨f.pack_low, h.2⟩
  setPc _ _ h := h
  tick _ _ _ h := h
  write s a v h := by simpa [State.CpuInv] using h
  setIme _ _ h := h
  armIme _ h := ⟨h.1, Nat.le_refl 2⟩
  clearIme _ h := ⟨h.1, Nat.zero_le 2⟩
  setHalt _ _ _ h := h
  lock _ h := h
  refuse _ _ h := h
  acknowledge _ _ h := ⟨h.1, Nat.zero_le 2⟩
  countdown s h := by
    obtain ⟨hf, hd⟩ := h
    unfold State.countdown
    split
    · exact ⟨hf, hd⟩
    · split
      · exact ⟨hf, Nat.zero_le 2⟩
      · exact ⟨hf, show s.imeDelay - 1 ≤ 2 by omega⟩
  catchUp s h := by simpa [State.CpuInv] using h

/-! ### A step that stops leaves the Clock -/

/-- From `s` to `t` no time passes and nothing is refused. -/
structure State.Untimed (s t : State) : Prop where
  cycles : t.cycles = s.cycles
  ppuLast : t.ppuLast = s.ppuLast
  timerLast : t.timerLast = s.timerLast
  refused : t.refused = s.refused

theorem State.Untimed.refl (s : State) : s.Untimed s := ⟨rfl, rfl, rfl, rfl⟩

theorem State.Untimed.write {s t : State} (h : s.Untimed t) (a : Word) (v : Byte) : s.Untimed (t.write a v) := by
  obtain ⟨hc, hp, ht, hr⟩ := h
  exact ⟨by simpa using hc, by simpa using hp, by simpa using ht, by simpa using hr⟩

theorem State.Untimed.setSp {s t : State} (h : s.Untimed t) (v : Word) : s.Untimed (t.setSp v) :=
  ⟨h.cycles, h.ppuLast, h.timerLast, h.refused⟩

theorem State.Untimed.push16 {s t : State} (h : s.Untimed t) (v : Word) : s.Untimed (t.push16 v) :=
  State.andThen_closed ((h.setSp _).write _ _) fun _ => (((h.setSp _).write _ _).setSp _).write _ _

theorem State.Untimed.write16 {s t : State} (h : s.Untimed t) (a v : Word) : s.Untimed (t.write16 a v) :=
  State.andThen_closed (h.write _ _) fun _ => (h.write _ _).write _ _

/-- `t` carries a mark only where the Clock and its watermarks are those of `s` (R420, R421). -/
def State.MarkedAtClock (s t : State) : Prop :=
  t.stopped = true → t.cycles = s.cycles ∧ t.ppuLast = s.ppuLast ∧ t.timerLast = s.timerLast

theorem State.stopped_eq_false {s : State} (hf : s.faulted = none) (hr : s.refused = none) : s.stopped = false := by
  simp [State.stopped, hf, hr]

theorem State.markedAtClock_of_unmarked (s : State) {t : State} (hf : t.faulted = none) (hr : t.refused = none) :
    s.MarkedAtClock t := by
  intro h
  rw [State.stopped_eq_false hf hr] at h
  cases h

/-- What follows the bus writes of an instruction raises no mark, and does not happen once a write has faulted. -/
theorem State.Untimed.markedAtClock_andThen {s u : State} (h : s.Untimed u) (hr : s.refused = none) {k : State → State}
    (hkf : (k u).faulted = u.faulted) (hkr : (k u).refused = u.refused) : s.MarkedAtClock (u.andThen k) := by
  cases hf : u.faulted with
  | none =>
    rw [State.andThen_of_none u k hf]
    exact s.markedAtClock_of_unmarked (hkf.trans hf) (hkr.trans (h.refused.trans hr))
  | some r =>
    rw [State.andThen_of_some u k hf]
    exact fun _ => ⟨h.cycles, h.ppuLast, h.timerLast⟩

theorem exec_markedAtClock {s : State} (hf : s.faulted = none) (hr : s.refused = none) (i : Instr) :
    Next s.MarkedAtClock (exec i s) := by
  have here := State.Untimed.refl s
  have unmarked : ∀ t : State, t.faulted = s.faulted → t.refused = s.refused → Next s.MarkedAtClock (.next t) :=
    fun t htf htr => ⟨t, rfl, s.markedAtClock_of_unmarked (htf.trans hf) (htr.trans hr)⟩
  have after : ∀ (u : State) (k : State → State), s.Untimed u → (k u).faulted = u.faulted → (k u).refused = u.refused →
      Next s.MarkedAtClock (.next (u.andThen k)) :=
    fun u k hu hkf hkr => ⟨_, rfl, hu.markedAtClock_andThen hr hkf hkr⟩
  refine exec_cases (P := Next s.MarkedAtClock) ?_ i
  constructor
  case storeByte => exact fun a v c _ => after _ _ (here.write a v) rfl rfl
  case storeAStep => exact fun d c _ => after _ _ (here.write _ _) rfl rfl
  case storeSp => exact fun nn c _ => after _ _ (here.write16 _ _) rfl rfl
  case pushPair => exact fun rr c _ => after _ _ (here.push16 _) rfl rfl
  case modifyMem => exact fun g c _ => after _ _ (here.write _ _) rfl rfl
  case callTo => exact fun t c _ => after _ _ (here.push16 _) rfl rfl
  case callIf =>
    intro cc t c d _ _
    unfold Sys2Proof.Machine.callIf
    split
    · exact after _ _ (here.push16 _) rfl rfl
    · exact unmarked _ rfl rfl
  case jumpIf =>
    intro cc t c d _ _
    unfold Sys2Proof.Machine.jumpIf
    split <;> exact unmarked _ rfl rfl
  case returnIf =>
    intro cc c d _ _
    unfold Sys2Proof.Machine.returnIf
    split <;> exact unmarked _ rfl rfl
  case halt =>
    refine unmarked _ ?_ ?_ <;> unfold State.halt <;> split <;> rfl
  case stop => exact ⟨_, rfl, fun _ => ⟨rfl, rfl, rfl⟩⟩
  -- Every other shape reaches registers only.
  all_goals intros; exact unmarked _ rfl rfl

theorem State.dispatch_markedAtClock (s : State) (hr : s.refused = none) : s.MarkedAtClock s.dispatch := by
  have hack : s.Untimed (s.acknowledge (lowestSource s.pending)) := ⟨rfl, rfl, rfl, rfl⟩
  unfold State.dispatch
  exact (hack.push16 _).markedAtClock_andThen hr rfl rfl

@[simp] theorem State.catchUp_stopped (s : State) : s.catchUp.stopped = s.stopped := by
  simp [State.stopped]

/-- The Clock and its watermarks at the end of a step (R31, R81, R420): a step that stops leaves them, any other leaves both
watermarks at the Clock. -/
theorem step_watermarks {s t : State} (h : step s = .next t) :
    s.MarkedAtClock t ∧ (t.stopped = false → t.ppuLast = t.cycles ∧ t.timerLast = t.cycles) := by
  obtain ⟨hf, hr, ⟨-, rfl⟩ | ⟨-, -, rfl⟩ | ⟨-, -, u, hu, rfl⟩⟩ := step_cases h
  · exact ⟨s.markedAtClock_of_unmarked (by simpa using hf) (by simpa using hr), fun _ => by simp⟩
  · unfold State.endStep
    split
    · rename_i hstop
      exact ⟨s.wake.dispatch_markedAtClock hr, fun hgo => absurd hstop (by simp [hgo])⟩
    · rename_i hgo
      exact ⟨fun hstop => absurd hstop (by simpa using hgo), fun _ => by simp⟩
  · obtain ⟨v, hv, hclock⟩ := exec_markedAtClock (s := s.wake.fetched s.wake.fetchInstr) hf hr s.wake.fetchInstr
    rw [hu] at hv
    cases hv
    unfold State.endInstr
    split
    · rename_i hstop
      obtain ⟨hc, hp, ht⟩ := hclock hstop
      unfold State.recordStop
      split
      · exact ⟨fun _ => ⟨hc, hp, ht⟩, fun hgo => absurd hgo (by simp [State.stopped])⟩
      · exact ⟨fun _ => ⟨hc, hp, ht⟩, fun hgo => absurd hstop (by simp [hgo])⟩
    · rename_i hgo
      exact ⟨fun hstop => absurd hstop (by simpa [State.countdown_stopped] using hgo), fun _ => by simp⟩

theorem step_clockInv {s t : State} (hs : s.ClockInv) (h : step s = .next t) : t.ClockInv := by
  obtain ⟨hmarked, hrunning⟩ := step_watermarks h
  cases hstop : t.stopped with
  | true =>
    obtain ⟨hc, hp, ht⟩ := hmarked hstop
    obtain ⟨hsp, hst⟩ := hs
    exact ⟨by rw [hp, hc, hsp], by rw [ht, hc, hst]⟩
  | false => exact hrunning hstop

/-- Settles O58: the CPU's part and the devices' part are closed under every operation of a step, and the Clock's part
holds at the end of each step. -/
theorem stepKeepsInvariant : Obligations.StepKeepsInvariant := by
  unfold Obligations.StepKeepsInvariant
  rintro s t ⟨hcpu, hclock, htimer, hmem, hcart, hmode, hpipe⟩ hst
  have hdev : s.DeviceInv := s.deviceInv_iff.2 ⟨htimer, hmem, hcart, hmode, hpipe⟩
  exact ⟨step_closed State.cpuInv_closed hcpu hst, step_clockInv hclock hst,
    t.deviceInv_iff.1 (step_closed State.deviceInv_closed hdev hst)⟩

/-! ### What no step changes -/

/-- What a machine keeps from the launch and from an earlier state `s` of its run (R51, R91, R358). -/
def State.KeepsLaunch (s t : State) : Prop :=
  SameLaunch s t ∧ (s.bootMapped = false → t.bootMapped = false) ∧ (s.locked = true → t.locked = true)

/-- The boot overlay is unmapped by a write at 0xFF50 and mapped by none (R91). -/
theorem State.write_bootMapped (s : State) (a : Word) (v : Byte) (h : s.bootMapped = false) :
    (s.write a v).bootMapped = false := by
  unfold State.write
  split
  · exact h
  · refine State.store_elim (P := fun t => t.bootMapped = false) s v a.isLt (fun _ => ?_) (fun _ _ => h) (fun _ _ => h) h
      (fun _ _ => h) (fun _ _ => h) h h h h ?_ h
    · rw [State.writeCart_eq]; exact h
    · simp [h]

theorem State.KeepsLaunch.write {s t : State} (h : s.KeepsLaunch t) (a : Word) (v : Byte) :
    s.KeepsLaunch (t.write a v) := by
  obtain ⟨⟨hboot, hrom, hkind, hbanks, hrams, hram, hjoy⟩, hmapped, hlocked⟩ := h
  have hw := t.write_frame a v
  exact ⟨⟨hw.boot.trans hboot, hw.rom.trans hrom, hw.kind.trans hkind, hw.romBanks.trans hbanks, hw.ramBanks.trans hrams,
      hw.hasRam.trans hram, hw.joypadParam.trans hjoy⟩,
    fun hb => t.write_bootMapped a v (hmapped hb), fun hl => hw.locked.trans (hlocked hl)⟩

theorem State.keepsLaunch_closed (s : State) : Closed s.KeepsLaunch where
  set8 _ _ _ h := h
  set16 _ _ _ _ h := h
  setAf _ _ h := h
  setFlags _ _ h := h
  setPc _ _ h := h
  tick _ _ _ h := h
  write _ a v h := h.write a v
  setIme _ _ h := h
  armIme _ h := h
  clearIme _ h := h
  setHalt _ _ _ h := h
  lock _ h := ⟨h.1, h.2.1, fun _ => rfl⟩
  refuse _ _ h := h
  acknowledge _ _ h := h
  countdown t h := by
    unfold State.countdown
    split
    · exact h
    · split <;> exact h
  catchUp t h := by
    rw [t.catchUp_eq]
    exact h

/-- Settles O59: what the launch handed over, an unmapped boot overlay and the lock are closed under every operation of a
step. -/
theorem stepKeepsLaunch : Obligations.StepKeepsLaunch := by
  unfold Obligations.StepKeepsLaunch
  intro s t hst
  have hself : s.KeepsLaunch s := ⟨⟨rfl, rfl, rfl, rfl, rfl, rfl, rfl⟩, fun hb => hb, fun hl => hl⟩
  exact step_closed s.keepsLaunch_closed hself hst

end Sys2Proof.Machine
end

section
/-! SUPPORT. The launch checks (spec/70_reset_and_hazards.md R700, R701) and the Input device (spec/60_exceptions.md R440, R441).
O56 and O54. -/

namespace Sys2Proof.Machine

/-! ### The launch checks -/

/-- An oversized fixed-bank buffer is named (R10); of several, the first in the request's list. -/
theorem LaunchRequest.problem_oversized {q : LaunchRequest} {k : CartKind} (hk : q.kind = .supported k)
    (h : ∃ n ∈ q.fixedBankLengths, 0x4000 < n) :
    ∃ n ∈ q.fixedBankLengths, 0x4000 < n ∧ q.problem = some (.oversizedBank n) := by
  obtain ⟨m, hm, hlarge⟩ := h
  have hsome : (q.fixedBankLengths.find? fun n => decide (Config.romBankSize < n)).isSome = true :=
    List.find?_isSome.2 ⟨m, hm, decide_eq_true hlarge⟩
  obtain ⟨n, hn⟩ := Option.isSome_iff_exists.1 hsome
  have hpred := List.find?_some hn
  exact ⟨n, List.mem_of_find?_eq_some hn, of_decide_eq_true hpred, by simp only [LaunchRequest.problem, hk, hn]⟩

/-- With every fixed-bank buffer in size, the boot image is the only check left (R700). -/
theorem LaunchRequest.problem_of_sized {q : LaunchRequest} {k : CartKind} (hk : q.kind = .supported k)
    (h : ∀ n ∈ q.fixedBankLengths, n ≤ 0x4000) :
    q.problem = if q.profile = .boot ∧ q.boot = none then some .bootImageMissing else none := by
  have hnone : (q.fixedBankLengths.find? fun n => decide (Config.romBankSize < n)) = none :=
    List.find?_eq_none.2 fun n hn hlarge => Nat.not_lt.2 (h n hn) (of_decide_eq_true hlarge)
  cases hp : q.profile <;> cases hb : q.boot <;> simp [LaunchRequest.problem, hk, hnone, hp, hb]

theorem launch_of_accepted {q : LaunchRequest} {k : CartKind} (hk : q.kind = .supported k) (h : q.problem = none)
    (i : Init) : launch q i = .next (State.entry q.profile (launchParameters q k) i) := by
  cases hp : q.profile <;> simp [launch, State.entry, hk, h, hp]

/-- Both profiles start unmarked (R701). -/
theorem State.entry_noFault (pr : Profile) (p : Launch) (i : Init) : (State.entry pr p i).NoFault := by
  cases pr with
  | boot => exact ⟨rfl, rfl⟩
  | postBoot => exact ⟨rfl, rfl⟩

/-- Both profiles start with nothing in flight (R701). -/
theorem State.entry_nothingInFlight (pr : Profile) (p : Launch) (i : Init) : (State.entry pr p i).NothingInFlight := by
  cases pr with
  | boot => exact ⟨rfl, rfl, rfl, rfl, rfl, rfl, rfl⟩
  | postBoot => exact ⟨rfl, rfl, rfl, rfl, rfl, rfl, rfl⟩

/-- Settles O56: each check by the problem it names, and the accepted launches by their profile's state. -/
theorem launchChecks : Obligations.LaunchChecks := by
  unfold Obligations.LaunchChecks
  intro q i
  refine ⟨fun b hb => ?_, fun k hk => ⟨fun hlarge => ?_, fun hsized hboot himage => ?_, fun hsized hboot => ?_⟩⟩
  · simp [launch, LaunchRequest.problem, hb]
  · obtain ⟨n, hmem, hn, hproblem⟩ := LaunchRequest.problem_oversized hk hlarge
    exact ⟨n, hmem, hn, by simp only [launch, hproblem]⟩
  · have hproblem : q.problem = some .bootImageMissing := by
      rw [LaunchRequest.problem_of_sized hk hsized, if_pos ⟨hboot, himage⟩]
    simp only [launch, hproblem]
  · have hproblem : q.problem = none := by
      rw [LaunchRequest.problem_of_sized hk hsized, if_neg fun h => hboot h.1 h.2]
    exact ⟨hproblem, launch_of_accepted hk hproblem i, State.entry_noFault _ _ _, State.entry_nothingInFlight _ _ _⟩

/-! ### JOYPAD as an argument -/

theorem mem_buttons (k : Button) : k ∈ [Button.right, .left, .up, .down, .a, .b, .select, .start] := by
  cases k <;> decide

theorem finite_byte : Finite Byte :=
  Finite.of_injective BitVec.toFin fun _ _ h => BitVec.toFin_inj.1 h

theorem finite_button : Finite Button :=
  Finite.of_surjective _ fun k => List.mem_iff_get.1 (mem_buttons k)

/-- The device's state is a byte and eight bits (log entry 5). -/
theorem finite_joypad : Finite Joypad := by
  have := finite_byte
  refine Finite.of_injective (β := Byte × Bool × Bool × Bool × Bool × Bool × Bool × Bool × Bool)
    (fun j => (j.sel, j.pressed.right, j.pressed.left, j.pressed.up, j.pressed.down, j.pressed.a, j.pressed.b,
      j.pressed.select, j.pressed.start)) ?_
  rintro ⟨sel, ⟨⟩⟩ ⟨sel', ⟨⟩⟩ h
  cases h
  rfl

theorem finite_inputEvent : Finite InputEvent := by
  have := finite_byte
  have := finite_button
  refine Finite.of_surjective (α := Button ⊕ Button ⊕ Byte)
    (Sum.elim InputEvent.press (Sum.elim InputEvent.release InputEvent.write)) fun e => ?_
  cases e with
  | press k => exact ⟨.inl k, rfl⟩
  | release k => exact ⟨.inr (.inl k), rfl⟩
  | write v => exact ⟨.inr (.inr v), rfl⟩

/-- Every function on a finite type is a table. -/
theorem exists_table {α β : Type} [BEq α] [LawfulBEq α] [Finite α] (f : α → β) :
    ∃ t : List (α × β), ∀ x, t.lookup x = some (f x) := by
  have := Fintype.ofFinite α
  exact ⟨Finset.univ.toList.map fun x => (x, f x), fun x => List.lookup_graph f (by simp)⟩

/-- Every device over the select byte and the buttons held is some JOYPAD (R9; log entry 5). -/
theorem exists_joypadParam (read : Joypad → Byte) (select : Joypad → Byte → Byte) (request : Joypad → InputEvent → Bool) :
    ∃ p : JoypadParam, ∀ (j : Joypad) (v : Byte) (e : InputEvent),
      joypadRead p j = read j ∧ joypadSelect p j v = select j v ∧ joypadRequest p j e = request j e := by
  have := finite_byte
  have := finite_joypad
  have := finite_inputEvent
  obtain ⟨reads, hreads⟩ := exists_table read
  obtain ⟨writes, hwrites⟩ := exists_table fun x : Joypad × Byte => select x.1 x.2
  obtain ⟨requests, hrequests⟩ := exists_table fun x : Joypad × InputEvent => request x.1 x.2
  refine ⟨{ reads := reads, writes := writes, requests := requests }, fun j v e => ⟨?_, ?_, ?_⟩⟩
  · simp only [joypadRead, hreads, Option.getD_some]
  · simp only [joypadSelect, hwrites, Option.getD_some]
  · simp only [joypadRequest, hrequests, Option.getD_some]

/-! ### The joypad's port, a press and a release -/

theorem held_putButton (p : Buttons) (k l : Button) (v : Bool) :
    held (putButton p k v) l = if l = k then v else held p l := by
  cases k <;> cases l <;> rfl

theorem State.held_press (s : State) (k l : Button) :
    held (s.press k).joypad.pressed l = (decide (l = k) || held s.joypad.pressed l) := by
  refine (held_putButton s.joypad.pressed k l true).trans ?_
  by_cases hlk : l = k <;> simp [hlk]

theorem State.held_release (s : State) (k l : Button) :
    held (s.release k).joypad.pressed l = (!decide (l = k) && held s.joypad.pressed l) := by
  refine (held_putButton s.joypad.pressed k l false).trans ?_
  by_cases hlk : l = k <;> simp [hlk]

/-- IF after an event at the device (R401, R441). -/
theorem State.inputEvent_iflag_eq (s : State) (e : InputEvent) :
    (s.inputEvent e).iflag =
      if joypadRequest s.joypadParam s.joypad e then s.iflag ||| irqBit .joypad else s.iflag := by
  rw [State.inputEvent_iflag]
  split
  · rfl
  · simp

/-- An event at the device reaches the device and IF, nothing else. -/
theorem State.inputEvent_eq (s : State) (e : InputEvent) :
    s.inputEvent e =
      { s with joypad := joypadAfter s.joypadParam s.joypad e,
               iflag := if joypadRequest s.joypadParam s.joypad e then s.iflag ||| irqBit .joypad else s.iflag } := by
  rw [← State.inputEvent_iflag_eq]
  rfl

theorem State.read_joypad (s : State) (h : s.ppu.dmaActive = false) :
    s.read 0xFF00 = joypadRead s.joypadParam s.joypad := by
  unfold State.read State.busRead
  simp [h, State.route, inCart, inHram]

theorem State.write_joypad (s : State) (v : Byte) (h : s.ppu.dmaActive = false) :
    s.write 0xFF00 v = s.inputEvent (.write v) := by
  unfold State.write
  simp [h, State.store, inCart, inHram]

/-! ### The default JOYPAD -/

/-- Bit i of four lines is line i, active low. -/
theorem activeLow_getLsbD :
    ∀ b3 b2 b1 b0 : Bool, (activeLow b3 b2 b1 b0).getLsbD 0 = !b0 ∧ (activeLow b3 b2 b1 b0).getLsbD 1 = !b1 ∧
      (activeLow b3 b2 b1 b0).getLsbD 2 = !b2 ∧ (activeLow b3 b2 b1 b0).getLsbD 3 = !b3 := by
  decide

theorem joypadLow_getLsbD (j : Joypad) (i : Fin 4) : (joypadLow j).getLsbD i = ruleLine j i := by
  unfold joypadLow
  dsimp only
  obtain ⟨h0, h1, h2, h3⟩ := activeLow_getLsbD _ _ _ _
  fin_cases i
  · exact h0
  · exact h1
  · exact h2
  · exact h3

/-- The default `read()`, bit by bit: the lines, the two select bits, and 0b11 (R440). -/
theorem defaultRead_getLsbD_append (j : Joypad) (i : Nat) :
    (defaultRead j).getLsbD i =
      if i < 4 then (joypadLow j).getLsbD i
      else if i - 4 < 2 then (j.sel.setWidth 2).getLsbD (i - 4) else (3 : BitVec 2).getLsbD (i - 4 - 2) := by
  rw [← BitVec.getLsbD_append]
  exact BitVec.getLsbD_append

theorem defaultRead_getLsbD (j : Joypad) (i : Fin 4) : (defaultRead j).getLsbD i = ruleLine j i := by
  rw [← joypadLow_getLsbD, defaultRead_getLsbD_append, if_pos i.isLt]

theorem defaultRead_high (j : Joypad) : defaultRead j &&& 0xF0 = 0xC0 ||| ((j.sel &&& 3) <<< 4) := by
  refine BitVec.eq_of_getLsbD_eq fun i hi => ?_
  rw [BitVec.getLsbD_and, defaultRead_getLsbD_append]
  interval_cases i <;> simp

/-- A bit of `x` that is not in `y`. -/
theorem and_not_bne_zero {w : Nat} (x y : BitVec w) :
    (x &&& ~~~y != 0) = decide (∃ i : Fin w, x.getLsbD i = true ∧ y.getLsbD i = false) := by
  rw [Bool.eq_iff_iff, bne_iff_ne, decide_eq_true_eq]
  constructor
  · intro hne
    by_contra hno
    refine hne (BitVec.eq_of_getLsbD_eq fun i hi => ?_)
    have hbit : ¬ (x.getLsbD i = true ∧ y.getLsbD i = false) := fun h => hno ⟨⟨i, hi⟩, h⟩
    simpa [hi] using hbit
  · rintro ⟨i, hx, hy⟩ hzero
    have hbit : (x &&& ~~~y).getLsbD i = true := by
      rw [BitVec.getLsbD_and, BitVec.getLsbD_not, hx, hy]
      simp
    simp [hzero] at hbit

/-- A press requests Joypad when it turns a line from 1 to 0 (R441). -/
theorem defaultRequest_press (j : Joypad) (k : Button) :
    defaultRequest j (.press k) =
      decide (∃ i : Fin 4, ruleLine j i = true ∧ ruleLine { j with pressed := putButton j.pressed k true } i = false) := by
  simp only [← joypadLow_getLsbD]
  exact and_not_bne_zero _ _

/-- Settles O54: full tables give any device, an event is one record update, and the default JOYPAD is read bit by bit. -/
theorem joypadPort : Obligations.JoypadPort := by
  unfold Obligations.JoypadPort
  refine ⟨exists_joypadParam, fun s v k l => ?_, fun j v k => ?_⟩
  · intro requested
    refine ⟨fun hdma => ⟨s.read_joypad hdma, ?_⟩, s.inputEvent_eq _, rfl, s.held_press k l, s.inputEvent_eq _, rfl,
      s.held_release k l⟩
    rw [s.write_joypad v hdma]
    exact s.inputEvent_eq _
  · exact ⟨defaultRead_high j, defaultRead_getLsbD j, rfl, rfl, rfl, defaultRequest_press j k⟩

end Sys2Proof.Machine
end

section
/-! SUPPORT. The Clock: the cost each instruction charges, and the Clock law of a whole step (spec/20_memory.md R81,
spec/46_system.md R350, R353). O60. -/

namespace Sys2Proof.Machine

/-! ### What an instruction and a dispatch charge -/

/-- `t` carries a mark, or its Clock is that of `s` advanced by a cost of the opcode table. -/
def State.Charged (s t : State) : Prop :=
  t.stopped = false → ∃ n ∈ costs, t.cycles = s.cycles + BitVec.ofNat 64 n

theorem State.stopped_of_faulted {s : State} {r : Fault} (h : s.faulted = some r) : s.stopped = true := by
  simp [State.stopped, h]

@[simp] theorem State.refuse_stopped (s : State) (r : Refusal) : (s.refuse r).stopped = true := by
  simp [State.stopped, State.refuse]

/-- What follows the bus writes of an instruction charges its cost, unless a write has faulted. -/
theorem State.Untimed.charged_andThen {s u : State} (h : s.Untimed u) {k : State → State} {c : Nat} (hc : c ∈ costs)
    (hk : (k u).cycles = u.cycles + BitVec.ofNat 64 c) : s.Charged (u.andThen k) := by
  cases hf : u.faulted with
  | none =>
    rw [State.andThen_of_none u k hf]
    exact fun _ => ⟨c, hc, by rw [hk, h.cycles]⟩
  | some r =>
    rw [State.andThen_of_some u k hf]
    exact fun hgo => absurd (State.stopped_of_faulted hf) (by simp [hgo])

/-- Every instruction charges a cost of the table, unless it stops. -/
theorem exec_charged (s : State) (i : Instr) : Next s.Charged (exec i s) := by
  have here := State.Untimed.refl s
  have charged : ∀ (t : State) (c : Nat), c ∈ costs → t.cycles = s.cycles + BitVec.ofNat 64 c →
      Next s.Charged (.next t) :=
    fun t c hc ht => ⟨t, rfl, fun _ => ⟨c, hc, ht⟩⟩
  have after : ∀ (u : State) (k : State → State) (c : Nat), s.Untimed u → c ∈ costs →
      (k u).cycles = u.cycles + BitVec.ofNat 64 c → Next s.Charged (.next (u.andThen k)) :=
    fun u k c hu hc hk => ⟨_, rfl, hu.charged_andThen hc hk⟩
  refine exec_cases (P := Next s.Charged) ?_ i
  constructor
  case storeByte => exact fun a v c hc => after _ _ c (here.write a v) hc rfl
  case storeAStep => exact fun d c hc => after _ _ c (here.write _ _) hc rfl
  case storeSp => exact fun nn c hc => after _ _ c (here.write16 _ _) hc rfl
  case pushPair => exact fun rr c hc => after _ _ c (here.push16 _) hc rfl
  case modifyMem => exact fun g c hc => after _ _ c (here.write _ _) hc rfl
  case callTo => exact fun t c hc => after _ _ c (here.push16 _) hc rfl
  case callIf =>
    intro cc t c d hc hd
    unfold Sys2Proof.Machine.callIf
    split
    · exact after _ _ c (here.push16 _) hc rfl
    · exact charged _ d hd rfl
  case jumpIf =>
    intro cc t c d hc hd
    unfold Sys2Proof.Machine.jumpIf
    split
    · exact charged _ c hc rfl
    · exact charged _ d hd rfl
  case returnIf =>
    intro cc c d hc hd
    unfold Sys2Proof.Machine.returnIf
    split
    · exact charged _ c hc rfl
    · exact charged _ d hd rfl
  case halt =>
    refine charged _ 4 (by decide) ?_
    unfold State.halt
    split <;> rfl
  case stop => exact ⟨_, rfl, fun hgo => absurd hgo (by simp)⟩
  case nop | lock | di | ei => exact charged _ 4 (by decide) rfl
  -- Every other shape reaches registers only and charges the cost it is given.
  all_goals intros; exact charged _ _ ‹_ ∈ costs› rfl

/-- A dispatch charges 20, unless a push byte faults (R407). -/
theorem State.dispatch_charged (s : State) : s.Charged s.dispatch := by
  have hack : s.Untimed (s.acknowledge (lowestSource s.pending)) := ⟨rfl, rfl, rfl, rfl⟩
  unfold State.dispatch
  exact (hack.push16 _).charged_andThen (by decide) rfl

/-! ### What a step charges -/

theorem State.countdown_cycles (s : State) : s.countdown.cycles = s.cycles := by
  unfold State.countdown
  split
  · rfl
  · split <;> rfl

theorem State.Charged.endStep {s u : State} (h : s.Charged u) : s.Charged u.endStep := by
  unfold State.endStep
  split
  · exact h
  · rename_i hgo
    exact fun _ => by simpa using h (by simpa using hgo)

theorem State.Charged.endInstr {s u : State} (h : s.Charged u) (a : Word) : s.Charged (u.endInstr a) := by
  unfold State.endInstr
  split
  · unfold State.recordStop
    split
    · exact fun hgo => absurd hgo (by simp)
    · exact h
  · rename_i hgo
    exact fun _ => by simpa [State.countdown_cycles] using h (by simpa using hgo)

/-- A waiting step is 4 T-cycles of a locked CPU, or one of a halted one with nothing pending and enabled (R350, R353, R358). -/
theorem State.waits_cases {s : State} (h : s.waits = true) :
    (s.locked = true ∧ s.waitCost = 4) ∨
      (s.halted = true ∧ s.locked = false ∧ s.pending = 0 ∧ s.waitCost = 1) := by
  cases hl : s.locked with
  | true => exact .inl ⟨rfl, by simp [State.waitCost, hl]⟩
  | false =>
    obtain ⟨hh, hp⟩ : s.halted = true ∧ s.pending = 0 := by simpa [State.waits, hl] using h
    exact .inr ⟨hh, rfl, hp, by simp [State.waitCost, hl]⟩

/-- A step that does not stop charges 1 T-cycle to an idle CPU, and a cost of the table to any other. -/
theorem step_charged {s t : State} (h : step s = .next t) (hgo : t.stopped = false) :
    (s.halted = true ∧ s.locked = false ∧ s.pending = 0 ∧ t.cycles = s.cycles + 1) ∨
      ∃ n ∈ costs, t.cycles = s.cycles + BitVec.ofNat 64 n := by
  obtain ⟨-, -, ⟨hwait, rfl⟩ | ⟨-, -, rfl⟩ | ⟨-, -, u, hu, rfl⟩⟩ := step_cases h
  · obtain ⟨-, hcost⟩ | ⟨hh, hl, hp, hcost⟩ := State.waits_cases hwait
    · exact .inr ⟨4, by decide, by simp [hcost]⟩
    · exact .inl ⟨hh, hl, hp, by simp [hcost]⟩
  · exact .inr (s.wake.dispatch_charged.endStep hgo)
  · obtain ⟨v, hv, hcharged⟩ := exec_charged (s.wake.fetched s.wake.fetchInstr) s.wake.fetchInstr
    rw [hu] at hv
    cases hv
    exact .inr (State.Charged.endInstr hcharged s.regs.pc hgo)

/-- Settles O60: a step that stops leaves the Clock, as `step_watermarks` says; any other charges what `step_charged` says. -/
theorem clockLaw : Obligations.ClockLaw := by
  unfold Obligations.ClockLaw
  intro s t h
  obtain ⟨hmarked, hrunning⟩ := step_watermarks h
  refine ⟨hmarked, fun hgo => ?_⟩
  obtain ⟨hppu, htimer⟩ := hrunning hgo
  exact ⟨hppu, htimer, step_charged h hgo⟩

end Sys2Proof.Machine
end

section
/-! SUPPORT. The bus by region: what each region of the address space reads as and where a write to it goes
(spec/20_memory.md R90, R91), once for every region; and with it the boot overlay (R50) and the read after a write. O37 and O35. -/

namespace Sys2Proof.Machine

/-! ### The regions of the bus -/

theorem inCart_iff (a : Nat) : inCart a = true ↔ a ≤ 0x7FFF ∨ 0xA000 ≤ a ∧ a ≤ 0xBFFF := by
  simp [inCart]

theorem inHram_iff (a : Nat) : inHram a = true ↔ 0xFF80 ≤ a ∧ a ≤ 0xFFFE := by
  simp [inHram]

theorem isGen_iff (a : Nat) :
    isGen a = true ↔ (0xFEA0 ≤ a ∧ a ≤ 0xFEFF) ∨ (0xFF01 ≤ a ∧ a ≤ 0xFF03) ∨ (0xFF08 ≤ a ∧ a ≤ 0xFF0E) ∨
      (0xFF10 ≤ a ∧ a ≤ 0xFF3F) ∨ (0xFF4C ≤ a ∧ a ≤ 0xFF4F) ∨ (0xFF51 ≤ a ∧ a ≤ 0xFF7F) := by
  simp [isGen, or_assoc]

theorem isPlainReg_iff (a : Nat) :
    isPlainReg a = true ↔ a = 0xFF05 ∨ a = 0xFF06 ∨ a = 0xFF42 ∨ a = 0xFF43 ∨ a = 0xFF45 ∨ a = 0xFF47 ∨ a = 0xFF48 ∨
      a = 0xFF49 ∨ a = 0xFF4A ∨ a = 0xFF4B ∨ a = 0xFFFF := by
  simp [isPlainReg]

/-- Every address lies in a region (R90, R91, R94). -/
theorem region_cases {a : Nat} (ha : a < 0x10000) :
    inCart a = true ∨ (0xC000 ≤ a ∧ a ≤ 0xFDFF) ∨ inHram a = true ∨ (0xFF40 ≤ a ∧ a ≤ 0xFF4B) ∨
      (0xFE00 ≤ a ∧ a ≤ 0xFE9F) ∨ (0x8000 ≤ a ∧ a ≤ 0x9FFF) ∨ (0xFF04 ≤ a ∧ a ≤ 0xFF07) ∨ a = 0xFFFF ∨
      a = 0xFF0F ∨ a = 0xFF00 ∨ a = 0xFF50 ∨ isGen a = true := by
  rw [inCart_iff, inHram_iff, isGen_iff]
  omega

/-! ### What each region reads as -/

theorem State.route_boot (s : State) {a : Nat} (h : a < 0x0100) (hm : s.bootMapped = true) : s.route a = memGet s.boot a := by
  simp [State.route, h, hm]

theorem State.route_cart (s : State) {a : Nat} (h : inCart a = true) (hm : s.bootMapped = false ∨ 0x0100 ≤ a) :
    s.route a = s.cart.read a := by
  have hboot : ¬ (a < 0x0100 && s.bootMapped) = true := by
    obtain hm | hm := hm <;> simp [hm]
  rw [State.route, if_neg hboot, if_pos h]

/-- WRAM and its echo index the same 0x2000 bytes (R45). -/
theorem State.route_wram (s : State) {a : Nat} (hlo : 0xC000 ≤ a) (hhi : a ≤ 0xFDFF) :
    s.route a = memGet s.wram ((a - 0xC000) % 0x2000) := by
  obtain h | h : a ≤ 0xDFFF ∨ 0xE000 ≤ a := by omega
  · rw [show (a - 0xC000) % 0x2000 = a - 0xC000 by omega]
    simp (disch := omega) only [State.route, inCart_iff, Bool.and_eq_true, decide_eq_true_eq, if_pos, if_neg]
  · rw [show (a - 0xC000) % 0x2000 = a - 0xE000 by omega]
    simp (disch := omega) only [State.route, inCart_iff, Bool.and_eq_true, decide_eq_true_eq, if_pos, if_neg]

theorem State.route_hram (s : State) {a : Nat} (h : inHram a = true) : s.route a = memGet s.hram (a - 0xFF80) := by
  rw [inHram_iff] at h
  simp (disch := omega) only [State.route, inCart_iff, inHram_iff, Bool.and_eq_true, decide_eq_true_eq, if_pos, if_neg]

theorem State.route_oam (s : State) {a : Nat} (hlo : 0xFE00 ≤ a) (hhi : a ≤ 0xFE9F) : s.route a = s.ppu.readOam a := by
  simp (disch := omega) only [State.route, inCart_iff, inHram_iff, Bool.and_eq_true, decide_eq_true_eq, if_pos, if_neg]

theorem State.route_vram (s : State) {a : Nat} (hlo : 0x8000 ≤ a) (hhi : a ≤ 0x9FFF) : s.route a = s.ppu.readVram a := by
  simp (disch := omega) only [State.route, inCart_iff, inHram_iff, Bool.and_eq_true, decide_eq_true_eq, if_pos, if_neg]

theorem State.route_bootFlag (s : State) : s.route 0xFF50 = if s.bootMapped then 0 else 1 := rfl

theorem State.route_gen (s : State) {a : Nat} (h : isGen a = true) : s.route a = memGet s.gen a := by
  rw [isGen_iff] at h
  simp (disch := omega) only [State.route, inCart_iff, inHram_iff, Bool.and_eq_true, decide_eq_true_eq, if_neg]

/-! ### Where a write to each region goes -/

theorem State.store_cart (s : State) {a : Nat} (v : Byte) (h : inCart a = true) : s.store a v = s.writeCart a v := by
  rw [State.store, if_pos h]

theorem State.store_wram (s : State) {a : Nat} (v : Byte) (hlo : 0xC000 ≤ a) (hhi : a ≤ 0xFDFF) :
    s.store a v = { s with wram := memSet s.wram ((a - 0xC000) % 0x2000) v } := by
  obtain h | h : a ≤ 0xDFFF ∨ 0xE000 ≤ a := by omega
  · rw [show (a - 0xC000) % 0x2000 = a - 0xC000 by omega]
    simp (disch := omega) only [State.store, inCart_iff, if_pos, if_neg]
  · rw [show (a - 0xC000) % 0x2000 = a - 0xE000 by omega]
    simp (disch := omega) only [State.store, inCart_iff, if_pos, if_neg]

theorem State.store_hram (s : State) {a : Nat} (v : Byte) (h : inHram a = true) :
    s.store a v = { s with hram := memSet s.hram (a - 0xFF80) v } := by
  rw [inHram_iff] at h
  simp (disch := omega) only [State.store, inCart_iff, inHram_iff, if_pos, if_neg]

theorem State.store_ppuReg (s : State) {a : Nat} (v : Byte) (hlo : 0xFF40 ≤ a) (hhi : a ≤ 0xFF4B) :
    s.store a v = s.writePpuReg a v := by
  simp (disch := omega) only [State.store, inCart_iff, inHram_iff, if_pos, if_neg]

theorem State.store_oam (s : State) {a : Nat} (v : Byte) (hlo : 0xFE00 ≤ a) (hhi : a ≤ 0xFE9F) :
    s.store a v = { s with ppu := s.ppu.writeOam a v } := by
  simp (disch := omega) only [State.store, inCart_iff, inHram_iff, if_pos, if_neg]

theorem State.store_vram (s : State) {a : Nat} (v : Byte) (hlo : 0x8000 ≤ a) (hhi : a ≤ 0x9FFF) :
    s.store a v = { s with ppu := s.ppu.writeVram a v } := by
  simp (disch := omega) only [State.store, inCart_iff, inHram_iff, if_pos, if_neg]

theorem State.store_timer (s : State) {a : Nat} (v : Byte) (hlo : 0xFF04 ≤ a) (hhi : a ≤ 0xFF07) :
    s.store a v = { s with timer := s.timer.write a v } := by
  simp (disch := omega) only [State.store, inCart_iff, inHram_iff, if_pos, if_neg]

theorem State.store_ie (s : State) (v : Byte) : s.store 0xFFFF v = { s with ie := v } := rfl

theorem State.store_if (s : State) (v : Byte) : s.store 0xFF0F v = { s with iflag := v.setWidth 5 } := rfl

theorem State.store_joypad (s : State) (v : Byte) : s.store 0xFF00 v = s.inputEvent (.write v) := rfl

theorem State.store_bootFlag (s : State) (v : Byte) :
    s.store 0xFF50 v = { s with bootMapped := s.bootMapped && v == 0 } := rfl

theorem State.store_gen (s : State) {a : Nat} (v : Byte) (h : isGen a = true) :
    s.store a v = { s with gen := memSet s.gen a v } := by
  rw [isGen_iff] at h
  simp (disch := omega) only [State.store, inCart_iff, inHram_iff, if_neg]

/-! ### The DMA lockout -/

theorem State.lockedOut_of_idle {s : State} (h : s.ppu.dmaActive = false) (a : Nat) : s.lockedOut a = false := by
  simp [State.lockedOut, h]

theorem State.read_of_open {s : State} {a : Word} (h : s.lockedOut a.toNat = false) : s.read a = s.route a.toNat := by
  unfold State.lockedOut at h
  simp [State.read, State.busRead, h]

theorem State.write_of_open {s : State} {a : Word} (h : s.lockedOut a.toNat = false) (v : Byte) :
    s.write a v = s.store a.toNat v := by
  unfold State.lockedOut at h
  simp [State.write, h]

theorem State.write_of_lockedOut {s : State} {a : Word} (h : s.lockedOut a.toNat = true) (v : Byte) : s.write a v = s := by
  unfold State.lockedOut at h
  simp [State.write, h]

/-- Settles O37: below 0x0100 the overlay stands before the cartridge for a read, and for no write. -/
theorem bootOverlay : Obligations.BootOverlay := by
  unfold Obligations.BootOverlay
  intro s a v hdma
  have hopen := State.lockedOut_of_idle hdma
  have hcart : a.toNat < 0x0100 → inCart a.toNat = true := fun ha => (inCart_iff _).2 (.inl (by omega))
  refine ⟨fun ha hm => ⟨?_, ?_⟩, fun ha hm => ?_, ?_, ?_⟩
  · rw [State.read_of_open (hopen _), s.route_boot ha hm]
  · rw [State.write_of_open (hopen _), s.store_cart v (hcart ha)]
  · rw [State.read_of_open (hopen _), s.route_cart (hcart ha) (.inl hm)]
  · exact (State.read_of_open (hopen _)).trans s.route_bootFlag
  · refine ((State.write_of_open (a := 0xFF50) (hopen _) v).trans (s.store_bootFlag v)).trans ?_
    by_cases hv : v = 0
    · simp [hv]
    · rw [if_neg hv, beq_false_of_ne hv, Bool.and_false]

/-! ### A write to no control address leaves every other byte -/

/-- `s` and `t` agree on whatever device the address `a` reaches (R90); a field left out is one that both share. -/
structure State.AgreesAt (s t : State) (a : Nat) : Prop where
  mapped : t.bootMapped = s.bootMapped := by rfl
  boot : t.boot = s.boot := by rfl
  cart : inCart a = true → t.cart.read a = s.cart.read a := by exact fun _ => rfl
  wram : 0xC000 ≤ a → a ≤ 0xDFFF → memGet t.wram (a - 0xC000) = memGet s.wram (a - 0xC000) := by exact fun _ _ => rfl
  echo : 0xE000 ≤ a → a ≤ 0xFDFF → memGet t.wram (a - 0xE000) = memGet s.wram (a - 0xE000) := by exact fun _ _ => rfl
  hram : inHram a = true → memGet t.hram (a - 0xFF80) = memGet s.hram (a - 0xFF80) := by exact fun _ => rfl
  ppuReg : 0xFF40 ≤ a → a ≤ 0xFF4B → t.ppu.readReg a = s.ppu.readReg a := by exact fun _ _ => rfl
  oam : 0xFE00 ≤ a → a ≤ 0xFE9F → t.ppu.readOam a = s.ppu.readOam a := by exact fun _ _ => rfl
  vram : 0x8000 ≤ a → a ≤ 0x9FFF → t.ppu.readVram a = s.ppu.readVram a := by exact fun _ _ => rfl
  timer : 0xFF04 ≤ a → a ≤ 0xFF07 → t.timer.read a = s.timer.read a := by exact fun _ _ => rfl
  ie : a = 0xFFFF → t.ie = s.ie := by exact fun _ => rfl
  iflag : a = 0xFF0F → t.iflag = s.iflag := by exact fun _ => rfl
  joypad : a = 0xFF00 → joypadRead t.joypadParam t.joypad = joypadRead s.joypadParam s.joypad := by exact fun _ => rfl
  gen : memGet t.gen a = memGet s.gen a := by rfl

theorem State.AgreesAt.route {s t : State} {a : Nat} (h : s.AgreesAt t a) : t.route a = s.route a := by
  unfold State.route
  rw [h.mapped, h.boot, h.gen]
  exact ite_congr rfl (fun _ => rfl) fun _ => ite_congr rfl h.cart fun _ => ite_congr rfl (fun k => h.wram k.1 k.2) fun _ =>
    ite_congr rfl (fun k => h.echo k.1 k.2) fun _ => ite_congr rfl h.hram fun _ =>
    ite_congr rfl (fun k => h.ppuReg k.1 k.2) fun _ => ite_congr rfl (fun k => h.oam k.1 k.2) fun _ =>
    ite_congr rfl (fun k => h.vram k.1 k.2) fun _ => ite_congr rfl (fun k => h.timer k.1 k.2) fun _ =>
    ite_congr rfl h.ie fun _ => ite_congr rfl (fun k => by rw [h.iflag k]) fun _ => ite_congr rfl h.joypad fun _ => rfl

/-- The addresses that are no control address (R89). -/
theorem State.isControl_eq_false_iff (s : State) (a : Nat) :
    s.isControl a = false ↔ (s.cart.kind = .mbc1 → 0x7FFF < a) ∧ a ≠ 0xFF40 ∧ a ≠ 0xFF46 ∧ a ≠ 0xFF50 ∧
      (a = 0xFF00 → s.joypadParam.requests = []) := by
  simp [State.isControl, isMbcControl, and_assoc]

/-- Cartridge RAM is read in its own window only (R115, R116). -/
theorem Cartridge.read_withCram (c : Cartridge) (m : Memory) {a : Nat}
    (h : 0xA000 ≤ a → memGet m (c.cramIndex a) = memGet c.cram (c.cramIndex a)) (ha : inCart a = true) :
    Cartridge.read { c with cram := m } a = c.read a := by
  rw [inCart_iff] at ha
  unfold Cartridge.read Cartridge.readMbc1
  cases c.kind with
  | romOnly => rfl
  | mbc1 =>
    refine ite_congr rfl (fun _ => rfl) fun _ => ite_congr rfl (fun _ => rfl) fun hrom => ite_congr rfl (fun _ => ?_)
      fun _ => rfl
    exact ite_congr rfl (fun _ => h (by omega)) fun _ => rfl

/-- A write to the cartridge that is none to MBC1's registers: cartridge RAM, or nothing (R101, R116). -/
theorem Cartridge.write_cases (c : Cartridge) {a : Nat} (v : Byte) (h : c.kind = .mbc1 → 0x7FFF < a) :
    c.write a v = c ∨ (0x7FFF < a ∧ c.write a v = { c with cram := memSet c.cram (c.cramIndex a) v }) := by
  unfold Cartridge.write
  cases hk : c.kind with
  | romOnly => exact .inl rfl
  | mbc1 =>
    have ha := h hk
    simp (disch := omega) only [Cartridge.writeMbc1, if_neg]
    unfold Cartridge.cramSet
    split
    · split
      · exact .inr ⟨ha, by rw [hk]⟩
      · exact .inl rfl
    · exact .inl rfl

theorem Cartridge.read_write_other (c : Cartridge) {a b : Nat} (v : Byte) (h : c.kind = .mbc1 → 0x7FFF < a)
    (ha : inCart a = true) (hb : inCart b = true) (hab : a ≠ b) : (c.write a v).read b = c.read b := by
  obtain hw | ⟨hram, hw⟩ := c.write_cases v h
  · rw [hw]
  · rw [hw]
    refine c.read_withCram _ (fun hlo => memGet_memSet_other _ v ?_) hb
    rw [inCart_iff] at ha
    unfold Cartridge.cramIndex
    omega

/-- What a register write other than LCDC's and DMA's leaves of `p`: no request, the DMA engine, and both gated memories. -/
def Ppu.KeepsMemory (p : Ppu) (q : Ppu × Irq) : Prop :=
  q.2 = 0 ∧ q.1.dmaActive = p.dmaActive ∧ (∀ a, q.1.readOam a = p.readOam a) ∧ ∀ a, q.1.readVram a = p.readVram a

theorem Ppu.keepsMemory_writeReg (p : Ppu) {a : Nat} (v : Byte) (hlcdc : a ≠ 0xFF40) (hdma : a ≠ 0xFF46) :
    p.KeepsMemory (p.writeReg a v) := by
  unfold Ppu.writeReg
  refine ite_elim (P := p.KeepsMemory) (fun h => absurd h hlcdc) fun _ => ?_
  iterate 5 refine ite_elim (P := p.KeepsMemory) (fun _ => ⟨rfl, rfl, fun _ => rfl, fun _ => rfl⟩) fun _ => ?_
  refine ite_elim (P := p.KeepsMemory) (fun h => absurd h hdma) fun _ => ?_
  iterate 4 refine ite_elim (P := p.KeepsMemory) (fun _ => ⟨rfl, rfl, fun _ => rfl, fun _ => rfl⟩) fun _ => ?_
  exact ⟨rfl, rfl, fun _ => rfl, fun _ => rfl⟩

/-- Register by register; the control registers and the diagonal are excluded. -/
theorem Ppu.readReg_writeReg_other (p : Ppu) {a b : Nat} (v : Byte) (hlcdc : a ≠ 0xFF40) (hdma : a ≠ 0xFF46)
    (halo : 0xFF40 ≤ a) (hahi : a ≤ 0xFF4B) (hblo : 0xFF40 ≤ b) (hbhi : b ≤ 0xFF4B) (hab : a ≠ b) :
    (p.writeReg a v).1.readReg b = p.readReg b := by
  interval_cases a <;> interval_cases b
  all_goals try contradiction
  all_goals rfl

theorem Timer.read_write_other (t : Timer) {a b : Nat} (v : Byte) (halo : 0xFF04 ≤ a) (hahi : a ≤ 0xFF07)
    (hblo : 0xFF04 ≤ b) (hbhi : b ≤ 0xFF07) (hab : a ≠ b) : (t.write a v).read b = t.read b := by
  interval_cases a <;> interval_cases b
  all_goals try contradiction
  all_goals rfl

theorem Ppu.readOam_writeOam_other (p : Ppu) {a b : Nat} (v : Byte) (ha : 0xFE00 ≤ a) (hb : 0xFE00 ≤ b) (hab : a ≠ b) :
    (p.writeOam a v).readOam b = p.readOam b := by
  unfold Ppu.writeOam
  split
  · rfl
  · exact ite_congr rfl (fun _ => rfl) fun _ => memGet_memSet_other _ v (by omega)

theorem Ppu.readVram_writeVram_other (p : Ppu) {a b : Nat} (v : Byte) (ha : 0x8000 ≤ a) (hb : 0x8000 ≤ b) (hab : a ≠ b) :
    (p.writeVram a v).readVram b = p.readVram b := by
  unfold Ppu.writeVram
  split
  · rfl
  · exact ite_congr rfl (fun _ => rfl) fun _ => memGet_memSet_other _ v (by omega)

/-- A write of OAM changes nothing else of the PPU, whether its gate is open or shut (R540). -/
theorem Ppu.writeOam_eq (p : Ppu) (a : Nat) (v : Byte) : p.writeOam a v = { p with oam := (p.writeOam a v).oam } := by
  unfold Ppu.writeOam
  split <;> rfl

/-- A write of VRAM changes nothing else of the PPU, whether its gate is open or shut (R541). -/
theorem Ppu.writeVram_eq (p : Ppu) (a : Nat) (v : Byte) : p.writeVram a v = { p with vram := (p.writeVram a v).vram } := by
  unfold Ppu.writeVram
  split <;> rfl

/-- The default interrupt policy requests nothing at a write of the joypad port (R441). -/
theorem joypadRequest_write {p : JoypadParam} (h : p.requests = []) (j : Joypad) (v : Byte) :
    joypadRequest p j (.write v) = false := by
  simp [joypadRequest, h, defaultRequest]

/-- A store at no control address leaves what every other cell reads as, region by region. -/
theorem State.route_store_other (s : State) {a b : Nat} (v : Byte) (ha : a < 0x10000) (hctl : s.isControl a = false)
    (hab : ¬ SameCell a b) : (s.store a v).route b = s.route b := by
  obtain ⟨hmbc, hlcdc, hdma, hflag, hjoy⟩ := (s.isControl_eq_false_iff a).1 hctl
  have hne : a ≠ b := fun h => hab (.inl h)
  obtain h | ⟨hlo, hhi⟩ | h | ⟨hlo, hhi⟩ | ⟨hlo, hhi⟩ | ⟨hlo, hhi⟩ | ⟨hlo, hhi⟩ | rfl | rfl | rfl | rfl | h :=
    region_cases ha
  · rw [s.store_cart v h, State.writeCart_eq]
    exact State.AgreesAt.route { cart := fun hb => s.cart.read_write_other v hmbc h hb hne }
  · rw [s.store_wram v hlo hhi]
    exact State.AgreesAt.route { wram := fun _ _ => memGet_memSet_other _ v (by omega)
                                 echo := fun _ _ => memGet_memSet_other _ v (by omega) }
  · rw [s.store_hram v h]
    rw [inHram_iff] at h
    exact State.AgreesAt.route { hram := fun hb => memGet_memSet_other _ v (by rw [inHram_iff] at hb; omega) }
  · obtain ⟨hirq, -, hoam, hvram⟩ := s.ppu.keepsMemory_writeReg v hlcdc hdma
    rw [s.store_ppuReg v hlo hhi]
    exact State.AgreesAt.route
      { ppuReg := fun hblo hbhi => s.ppu.readReg_writeReg_other v hlcdc hdma hlo hhi hblo hbhi hne
        oam := fun _ _ => hoam b
        vram := fun _ _ => hvram b
        iflag := fun _ => by simp [State.writePpuReg, hirq] }
  · rw [s.store_oam v hlo hhi]
    exact State.AgreesAt.route
      { oam := fun hblo _ => s.ppu.readOam_writeOam_other v hlo hblo hne
        ppuReg := fun _ _ => by rw [s.ppu.writeOam_eq a v]; rfl
        vram := fun _ _ => by rw [s.ppu.writeOam_eq a v]; rfl }
  · rw [s.store_vram v hlo hhi]
    exact State.AgreesAt.route
      { vram := fun hblo _ => s.ppu.readVram_writeVram_other v hlo hblo hne
        ppuReg := fun _ _ => by rw [s.ppu.writeVram_eq a v]; rfl
        oam := fun _ _ => by rw [s.ppu.writeVram_eq a v]; rfl }
  · rw [s.store_timer v hlo hhi]
    exact State.AgreesAt.route { timer := fun hblo hbhi => s.timer.read_write_other v hlo hhi hblo hbhi hne }
  · rw [s.store_ie v]
    exact State.AgreesAt.route { ie := fun hb => absurd hb.symm hne }
  · rw [s.store_if v]
    exact State.AgreesAt.route { iflag := fun hb => absurd hb.symm hne }
  · have hif : (s.inputEvent (.write v)).iflag = s.iflag := by
      simp [joypadRequest_write (hjoy rfl)]
    rw [s.store_joypad v]
    exact State.AgreesAt.route { joypad := fun hb => absurd hb.symm hne, iflag := fun _ => hif }
  · exact absurd rfl hflag
  · rw [s.store_gen v h]
    exact State.AgreesAt.route { gen := memGet_memSet_other _ v (Ne.symm hne) }

/-- Only a control address starts a DMA: register DMA, at 0xFF46 (R545). -/
theorem State.store_dmaActive (s : State) {a : Nat} (v : Byte) (ha : a < 0x10000) (hctl : s.isControl a = false) :
    (s.store a v).ppu.dmaActive = s.ppu.dmaActive := by
  obtain ⟨-, hlcdc, hdma, -⟩ := (s.isControl_eq_false_iff a).1 hctl
  obtain ⟨-, hreg, -⟩ := s.ppu.keepsMemory_writeReg v hlcdc hdma
  refine State.store_elim (P := fun t => t.ppu.dmaActive = s.ppu.dmaActive) s v ha (fun _ => ?_) (fun _ _ => rfl)
    (fun _ _ => rfl) hreg (fun _ _ => ?_) (fun _ _ => ?_) rfl rfl rfl rfl rfl rfl
  · rw [State.writeCart_eq]
  · rw [s.ppu.writeOam_eq a v]
  · rw [s.ppu.writeVram_eq a v]

/-- After a store at no control address the bus is open where it was. -/
theorem State.lockedOut_store (s : State) {a : Nat} (v : Byte) (ha : a < 0x10000) (hctl : s.isControl a = false) (b : Nat) :
    (s.store a v).lockedOut b = s.lockedOut b := by
  unfold State.lockedOut
  rw [s.store_dmaActive v ha hctl]

theorem State.read_write_other (s : State) {a b : Word} (v : Byte) (hq : s.quiet a.toNat = true)
    (hab : ¬ SameCell a.toNat b.toNat) : (s.write a v).read b = s.read b := by
  cases hl : s.lockedOut a.toNat with
  | true => rw [State.write_of_lockedOut hl]
  | false =>
    have hctl : s.isControl a.toNat = false := by simpa [State.quiet, hl] using hq
    have hb := s.lockedOut_store v a.isLt hctl b.toNat
    have hroute := s.route_store_other v a.isLt hctl hab
    rw [State.write_of_open hl]
    cases hlb : s.lockedOut b.toNat with
    | true =>
      unfold State.lockedOut at hb hlb
      simp [State.read, State.busRead, hb, hlb]
    | false => rw [State.read_of_open (hb.trans hlb), State.read_of_open hlb, hroute]

/-! ### What is stored reads back -/

/-- The places where a byte stored reads back, one by one. -/
theorem State.storesAt_cases {s : State} {a : Nat} (h : s.storesAt a = true) :
    s.lockedOut a = false ∧
      ((0x8000 ≤ a ∧ a ≤ 0x9FFF ∧ s.ppu.vramGated = false) ∨
        (0xA000 ≤ a ∧ a ≤ 0xBFFF ∧ s.cart.kind = .mbc1 ∧ s.cart.hasRam = true ∧ s.cart.mbc.ramEnabled = true ∧
          s.cart.cramIndex a < s.cart.cramSize) ∨
        (0xC000 ≤ a ∧ a ≤ 0xFDFF) ∨ (0xFE00 ≤ a ∧ a ≤ 0xFE9F ∧ s.ppu.oamGated = false) ∨ inHram a = true ∨
        isPlainReg a = true ∨ isGen a = true) := by
  simpa [State.storesAt, or_assoc, and_assoc] using h

theorem Ppu.readVram_writeVram_same {p : Ppu} (a : Nat) (v : Byte)
    (hm : Memory.wf Config.unwritten Config.vramSize p.vram = true)
    (hg : p.vramGated = false) : (p.writeVram a v).readVram a = v := by
  unfold Ppu.writeVram Ppu.readVram
  rw [hg]
  exact (if_neg (by simpa [Ppu.vramGated] using hg)).trans (memGet_memSet_same hm _ v)

theorem Ppu.readOam_writeOam_same {p : Ppu} (a : Nat) (v : Byte)
    (hm : Memory.wf Config.unwritten Config.oamSize p.oam = true)
    (hg : p.oamGated = false) : (p.writeOam a v).readOam a = v := by
  unfold Ppu.writeOam Ppu.readOam
  rw [hg]
  exact (if_neg (by simpa [Ppu.oamGated] using hg)).trans (memGet_memSet_same hm _ v)

/-- Cartridge RAM answers at the bus address `a`: MBC1 with RAM present and enabled, and storage behind the index (R53, R115). -/
def Cartridge.RamAt (c : Cartridge) (a : Nat) : Prop :=
  c.kind = .mbc1 ∧ c.hasRam = true ∧ c.mbc.ramEnabled = true ∧ c.cramIndex a < c.cramSize

theorem Cartridge.RamAt.read {c : Cartridge} {a : Nat} (h : c.RamAt a) (hlo : 0xA000 ≤ a) :
    c.read a = memGet c.cram (c.cramIndex a) := by
  obtain ⟨hk, hram, hen, hsize⟩ := h
  simp only [Cartridge.read, hk]
  rw [Cartridge.readMbc1, if_neg (by omega), if_neg (by omega), if_pos (by simp [hram, hen]), Cartridge.cramGet, if_pos hsize]

theorem Cartridge.RamAt.write {c : Cartridge} {a : Nat} (h : c.RamAt a) (hlo : 0xA000 ≤ a) (v : Byte) :
    c.write a v = { c with cram := memSet c.cram (c.cramIndex a) v } := by
  obtain ⟨hk, hram, hen, hsize⟩ := h
  simp only [Cartridge.write, hk]
  rw [Cartridge.writeMbc1, if_neg (by omega), if_neg (by omega), if_neg (by omega), if_neg (by omega),
    if_pos (by simp [hram, hen]), Cartridge.cramSet, if_pos hsize, hk]

theorem Cartridge.RamAt.read_write {c : Cartridge} {a : Nat} (h : c.RamAt a) (hlo : 0xA000 ≤ a) (v : Byte)
    (hm : Memory.wf Config.unwritten c.cramSize c.cram = true) : (c.write a v).read a = v := by
  have h' : Cartridge.RamAt { c with cram := memSet c.cram (c.cramIndex a) v } a := h
  rw [h.write hlo v, h'.read hlo]
  exact memGet_memSet_same hm _ v

/-- A plain register reads back what was written. -/
theorem State.route_store_plainReg (s : State) {a : Nat} (v : Byte) (h : isPlainReg a = true) : (s.store a v).route a = v := by
  obtain rfl | rfl | rfl | rfl | rfl | rfl | rfl | rfl | rfl | rfl | rfl := (isPlainReg_iff a).1 h <;> rfl

/-- What is stored at an address is read there and, in WRAM, at the echo address too (R45). -/
theorem State.route_store_same {s : State} {a b : Nat} (v : Byte) (hmem : s.MemInv) (hst : s.storesAt a = true)
    (hab : SameCell a b) : (s.store a v).route b = v := by
  obtain ⟨hw, hh, hg, hc, hv, ho, -⟩ := hmem
  obtain ⟨-, ⟨hlo, hhi, hgate⟩ | ⟨hlo, hhi, hram⟩ | ⟨hlo, hhi⟩ | ⟨hlo, hhi, hgate⟩ | h | h | h⟩ := State.storesAt_cases hst
  · obtain rfl : a = b := by omega
    rw [s.store_vram v hlo hhi, State.route_vram _ hlo hhi]
    exact Ppu.readVram_writeVram_same a v hv hgate
  · obtain rfl : a = b := by omega
    have hcart : inCart a = true := (inCart_iff a).2 (.inr ⟨hlo, hhi⟩)
    rw [s.store_cart v hcart, State.writeCart_eq, State.route_cart _ hcart (.inr (by omega))]
    exact Cartridge.RamAt.read_write hram hlo v hc
  · have hindex : (b - 0xC000) % 0x2000 = (a - 0xC000) % 0x2000 := by omega
    rw [s.store_wram v hlo hhi, State.route_wram _ (by omega) (by omega), hindex]
    exact memGet_memSet_same hw _ v
  · obtain rfl : a = b := by omega
    rw [s.store_oam v hlo hhi, State.route_oam _ hlo hhi]
    exact Ppu.readOam_writeOam_same a v ho hgate
  · obtain rfl : a = b := by rw [inHram_iff] at h; omega
    rw [s.store_hram v h, State.route_hram _ h]
    exact memGet_memSet_same hh _ v
  · obtain rfl : a = b := by rw [isPlainReg_iff] at h; omega
    exact s.route_store_plainReg v h
  · obtain rfl : a = b := by rw [isGen_iff] at h; omega
    rw [s.store_gen v h, State.route_gen _ h]
    exact memGet_memSet_same hg a v

/-- What stores a byte to be read back is no control address. -/
theorem State.isControl_of_storesAt {s : State} {a : Nat} (h : s.storesAt a = true) : s.isControl a = false := by
  obtain ⟨-, hcases⟩ := State.storesAt_cases h
  rw [inHram_iff, isPlainReg_iff, isGen_iff] at hcases
  have haddr : 0x7FFF < a ∧ a ≠ 0xFF40 ∧ a ≠ 0xFF46 ∧ a ≠ 0xFF50 ∧ a ≠ 0xFF00 := by omega
  obtain ⟨hrom, hlcdc, hdma, hflag, hjoy⟩ := haddr
  exact (s.isControl_eq_false_iff a).2 ⟨fun _ => hrom, hlcdc, hdma, hflag, fun h0 => absurd h0 hjoy⟩

theorem State.read_write_same {s : State} {a b : Word} (v : Byte) (hmem : s.MemInv) (hst : s.storesAt a.toNat = true)
    (hab : SameCell a.toNat b.toNat) (hb : s.lockedOut b.toNat = false) : (s.write a v).read b = v := by
  obtain ⟨ha, -⟩ := State.storesAt_cases hst
  have hopen := (s.lockedOut_store v a.isLt (State.isControl_of_storesAt hst) b.toNat).trans hb
  rw [State.write_of_open ha, State.read_of_open hopen]
  exact State.route_store_same v hmem hst hab

/-- Settles O35: `read_write_same` at the address and at its alias, `read_write_other` everywhere else. -/
theorem readAfterWrite : Obligations.ReadAfterWrite := by
  unfold Obligations.ReadAfterWrite
  intro s a v
  refine ⟨⟨fun hmem hst => ?_, fun hq b hab => s.read_write_other v hq hab⟩, fun hmem hst b hab hb =>
    State.read_write_same v hmem hst hab hb⟩
  obtain ⟨ha, -⟩ := State.storesAt_cases hst
  exact State.read_write_same v hmem hst (.inl rfl) ha

end Sys2Proof.Machine
end

section
/-! SUPPORT. The register file (spec/10_state.md R33, R34) and the two launch profiles (spec/70_reset_and_hazards.md R702, R703)
with the invariants at their entry. O14, O55 and O57. -/

namespace Sys2Proof.Machine

/-! ### The register file -/

/-- F holds Z, N, H and C in bits 7 to 4 (R34). -/
theorem Flags.pack_getLsbD (f : Flags) :
    f.pack.getLsbD 7 = f.z ∧ f.pack.getLsbD 6 = f.n ∧ f.pack.getLsbD 5 = f.h ∧ f.pack.getLsbD 4 = f.c := by
  have h := flagsOf_pack f
  exact ⟨congrArg Flags.z h, congrArg Flags.n h, congrArg Flags.h h, congrArg Flags.c h⟩

/-- Settles O14: by the laws of the register file and of F, and the definition of a pair's two bytes. -/
theorem registerFile : Obligations.RegisterFile := by
  unfold Obligations.RegisterFile
  refine ⟨fun f => ?_, fun g r q p v w => ?_⟩
  · obtain ⟨hz, hn, hh, hc⟩ := f.pack_getLsbD
    exact ⟨hz, hn, hh, hc, f.pack_low, flagsOf_pack f⟩
  · exact ⟨g.get8_set8_same r v, g.get8_set8_other v, g.set8_f r v, g.set8_sp r v, g.set8_pc r v, g.get16_set16_same p w,
      toNat_wordOf _ _, toNat_wordOf _ _, toNat_wordOf _ _, toNat_wordOf _ _, rfl, rfl, rfl, rfl, rfl⟩

/-! ### The launch profiles -/

/-- STAT at power-on: bit 7 alone, with nothing selected, no coincidence and mode HBlank (R506, R703). -/
theorem State.entry_boot_stat (p : Launch) (i : Init) : (State.entry .boot p i).ppu.stat = 0x80 := by
  show (1 : BitVec 1) ++ (0 : BitVec 4) ++ BitVec.ofBool false ++ (0 : BitVec 2) = (0x80 : Byte)
  decide

/-- Settles O55: every field is the one the profile's table gives, and STAT is read from three of them. -/
theorem launchProfiles : Obligations.LaunchProfiles := by
  unfold Obligations.LaunchProfiles
  intro p i
  dsimp only
  rw [State.entry_boot_stat]
  and_intros <;> rfl

/-! ### The invariants at a launch -/

theorem Ppu.reset_pipeInv (vram oam : Memory) : (Ppu.reset vram oam).PipeInv := by
  simp [Ppu.PipeInv, Ppu.reset, SpriteFetcher.idle, Config.maxSprites, Config.screenWidth]

/-- Power-on has the LCD off, in HBlank of line 0 (R703). -/
theorem State.bootProfile_modeInv (p : Launch) (i : Init) : (State.bootProfile p i).ppu.ModeInv :=
  Ppu.modeInv_start rfl rfl rfl

/-- Cartridge entry has the LCD on, in the OAM search of line 0 (R702). -/
theorem State.postBootProfile_modeInv (p : Launch) (i : Init) : (State.postBootProfile p i).ppu.ModeInv :=
  Ppu.modeInv_search (show (0x91 : Byte).getLsbD 7 = true by decide) rfl (show (0 : Byte).toNat < 144 by decide)
    (show 0 < 80 by decide)

/-- The invariants hold at a launch whose drawn memories are in canonical form. -/
theorem State.entry_inv (pr : Profile) (p : Launch) (i : Init)
    (hw : Memory.wf Config.unwritten Config.wramSize i.wram = true)
    (hh : Memory.wf Config.unwritten Config.hramSize i.hram = true)
    (hg : Memory.wf Config.unwritten Config.genSize i.gen = true)
    (hc : Memory.wf Config.unwritten (p.ramBanks * Config.ramBankSize) i.cram = true)
    (hv : Memory.wf Config.unwritten Config.vramSize i.vram = true)
    (ho : Memory.wf Config.unwritten Config.oamSize i.oam = true) : (State.entry pr p i).Inv := by
  have hmem : (State.bootProfile p i).MemInv := ⟨hw, hh, hg, hc, hv, ho, rfl⟩
  have hpipe := Ppu.reset_pipeInv i.vram i.oam
  cases pr with
  | boot =>
    have hf : (0x00 : Byte) &&& 0x0F = 0 := by decide
    exact ⟨⟨hf, Nat.zero_le 2⟩, ⟨rfl, rfl⟩, Nat.zero_le 4, hmem, p.romBanks.property, State.bootProfile_modeInv p i, hpipe⟩
  | postBoot =>
    obtain ⟨hn, hcount, hb, hs, -, hrest⟩ := hpipe
    have hf : (0xB0 : Byte) &&& 0x0F = 0 := by decide
    exact ⟨⟨hf, Nat.zero_le 2⟩, ⟨rfl, rfl⟩, Nat.zero_le 4, hmem, p.romBanks.property, State.postBootProfile_modeInv p i,
      hn, hcount, hb, hs, fun hactive => Bool.noConfusion hactive, hrest⟩

/-- Settles O57: `State.reset` is the launch of profile BOOT with nothing listed. -/
theorem resetInvariant : Obligations.ResetInvariant := by
  unfold Obligations.ResetInvariant
  exact ⟨State.entry_inv .boot Launch.unlisted Init.zero rfl rfl rfl rfl rfl rfl, State.entry_inv⟩

end Sys2Proof.Machine
end

section
/-! SUPPORT. The cartridge (spec/20_memory.md R100 to R116): MBC1's registers and bank functions, the fault of its bank index,
what the cartridge's window reads as and stores; and the marked machine, which takes no step. O6, O33, O34, O38 and O39. -/

namespace Sys2Proof.Machine

/-- Settles O6: the fault mark is looked at first, the refusal mark next. -/
theorem markedTakesNoStep : Obligations.MarkedTakesNoStep := by
  unfold Obligations.MarkedTakesNoStep
  intro s
  refine ⟨fun r hf => ?_, fun r hf hr => ?_⟩
  · simp only [step, hf]
  · simp only [step, hf, hr]

/-! ### The bank functions -/

theorem ceilLog2_two_pow (k : Nat) : ceilLog2 (2 ^ k) = k := by
  cases k with
  | zero => rfl
  | succ k =>
    have hpos : 1 ≤ 2 ^ k := Nat.one_le_two_pow
    have hlog : Nat.log2 (2 ^ (k + 1) - 1) = k := (Nat.log2_eq_iff (by omega)).2 ⟨by omega, by omega⟩
    rw [ceilLog2, if_neg (by omega), hlog]

/-- Masking with `(1 << k) - 1`, as R112 and R114 write it, is the remainder by `2 ^ k`. -/
theorem and_mask_eq_mod (n k : Nat) : n &&& ((1 <<< k) - 1) = n % 2 ^ k := by
  rw [Nat.one_shiftLeft, Nat.and_two_pow_sub_one_eq_mod]

/-- `(high << 5) | low` is a sum, `low` having five bits. -/
theorem shift_five_or {low : Nat} (high : Nat) (h : low < 32) : (high <<< 5) ||| low = high * 32 + low := by
  rw [← Nat.shiftLeft_add_eq_or_of_lt h, Nat.shiftLeft_eq]

theorem Cartridge.romBank_eq_rule (c : Cartridge) :
    c.romBank = ruleRomBank c.mbc.bankLow c.mbc.bankHigh c.mbc.ramBanking c.romBanks := by
  have hzero : (c.mbc.bankLow.toNat = 0) = (c.mbc.bankLow = 0) := by simp [BitVec.toNat_eq]
  have hlow : (if c.mbc.bankLow = 0 then 1 else c.mbc.bankLow.toNat) < 32 := by
    have := c.mbc.bankLow.isLt
    split <;> omega
  simp only [Cartridge.romBank, ruleRomBank, hzero, shift_five_or _ hlow, and_mask_eq_mod]

theorem Cartridge.ramBank_eq_rule (c : Cartridge) :
    c.ramBank = ruleRamBank c.mbc.bankHigh c.mbc.ramBanking c.hasRam c.ramBanks := by
  simp only [Cartridge.ramBank, ruleRamBank, and_mask_eq_mod]

/-- Bank 0 never shows in the switched window (R112). -/
theorem Cartridge.one_le_romBank (c : Cartridge) : 1 ≤ c.romBank := by
  unfold Cartridge.romBank
  dsimp only
  repeat' split
  all_goals omega

theorem Cartridge.ramBank_lt_of_two_pow {c : Cartridge} (h : ∃ k, c.ramBanks = 2 ^ k) : c.ramBank < c.ramBanks := by
  obtain ⟨k, hk⟩ := h
  have hpos : 0 < 2 ^ k := Nat.two_pow_pos k
  rw [Cartridge.ramBank, hk, ceilLog2_two_pow]
  split
  · exact Nat.mod_lt _ hpos
  · exact hpos

/-! ### MBC1's registers -/

theorem Cartridge.write_ramEnable {c : Cartridge} (hk : c.kind = .mbc1) {a : Nat} (v : Byte) (h : a ≤ 0x1FFF) :
    c.write a v = { c with mbc := { c.mbc with ramEnabled := v == 0x0A } } := by
  simp only [Cartridge.write, hk, Cartridge.writeMbc1, if_pos h]

theorem Cartridge.write_bankLow {c : Cartridge} (hk : c.kind = .mbc1) {a : Nat} (v : Byte) (hlo : 0x2000 ≤ a)
    (hhi : a ≤ 0x3FFF) : c.write a v = { c with mbc := { c.mbc with bankLow := v.setWidth 5 } } := by
  simp (disch := omega) only [Cartridge.write, hk, Cartridge.writeMbc1, if_pos, if_neg]

theorem Cartridge.write_bankHigh {c : Cartridge} (hk : c.kind = .mbc1) {a : Nat} (v : Byte) (hlo : 0x4000 ≤ a)
    (hhi : a ≤ 0x5FFF) : c.write a v = { c with mbc := { c.mbc with bankHigh := v.setWidth 2 } } := by
  simp (disch := omega) only [Cartridge.write, hk, Cartridge.writeMbc1, if_pos, if_neg]

theorem Cartridge.write_ramBanking {c : Cartridge} (hk : c.kind = .mbc1) {a : Nat} (v : Byte) (hlo : 0x6000 ≤ a)
    (hhi : a ≤ 0x7FFF) : c.write a v = { c with mbc := { c.mbc with ramBanking := v.getLsbD 0 } } := by
  simp (disch := omega) only [Cartridge.write, hk, Cartridge.writeMbc1, if_pos, if_neg]

/-! ### The fault of the bank index -/

/-- Banking mode 1 with RAM and a bank index at or above RAM_BANKS (R113). -/
def Cartridge.BankOut (c : Cartridge) : Prop :=
  c.mbc.ramBanking = true ∧ c.hasRam = true ∧ c.ramBanks ≤ c.ramBank

/-- A cartridge whose bank index cannot be out of range: RAM_BANKS a power of two, or no MBC1, or no RAM (R113, R114). -/
def Cartridge.BankSafe (c : Cartridge) : Prop :=
  (∃ k, c.ramBanks = 2 ^ k) ∨ c.kind = .romOnly ∨ c.hasRam = false

theorem Cartridge.bankFault_eq_some {c : Cartridge} (hk : c.kind = .mbc1) {a : Nat} (hlo : 0x4000 ≤ a) (hhi : a ≤ 0x7FFF)
    (h : c.BankOut) : c.bankFault a = some (.mbcRamBankOutOfRange c.ramBank c.ramBanks) := by
  simp only [Cartridge.bankFault, hk]
  exact if_pos ⟨hlo, hhi, h⟩

theorem Cartridge.bankFault_eq_none {c : Cartridge} {a : Nat}
    (h : ¬ (c.kind = .mbc1 ∧ 0x4000 ≤ a ∧ a ≤ 0x7FFF ∧ c.BankOut)) : c.bankFault a = none := by
  unfold Cartridge.bankFault
  cases hk : c.kind with
  | romOnly => rfl
  | mbc1 => exact if_neg fun hout => h ⟨hk, hout⟩

theorem Cartridge.BankSafe.bankFault {c : Cartridge} (h : c.BankSafe) (a : Nat) : c.bankFault a = none := by
  refine Cartridge.bankFault_eq_none ?_
  rintro ⟨hk, -, -, -, hram, hout⟩
  obtain hpow | hrom | hno := h
  · exact absurd (Cartridge.ramBank_lt_of_two_pow hpow) (Nat.not_lt.2 hout)
  · rw [hrom] at hk; cases hk
  · rw [hno] at hram; cases hram

theorem Cartridge.BankSafe.write {c : Cartridge} (h : c.BankSafe) (a : Nat) (v : Byte) : (c.write a v).BankSafe := by
  obtain ⟨-, hkind, -, hbanks, hram⟩ := c.write_launch a v
  unfold Cartridge.BankSafe
  rwa [hkind, hbanks, hram]

@[simp] theorem State.writeCart_cart (s : State) (a : Nat) (v : Byte) : (s.writeCart a v).cart = s.cart.write a v := by
  rw [State.writeCart_eq]

theorem State.writeCart_faulted (s : State) (a : Nat) (v : Byte) :
    (s.writeCart a v).faulted = ((s.cart.write a v).bankFault a).or s.faulted := by
  rw [State.writeCart_eq]
  cases (s.cart.write a v).bankFault a <;> rfl

theorem State.writeCart_of_ok {s : State} {a : Nat} {v : Byte} (h : (s.cart.write a v).bankFault a = none) :
    s.writeCart a v = { s with cart := s.cart.write a v } := by
  rw [State.writeCart_eq, h]

/-- The cartridge's check is the only source of a fault; outside 0x4000 to 0x7FFF it answers none (R113). -/
theorem State.store_faulted (s : State) {a : Nat} (v : Byte) (ha : a < 0x10000) :
    (s.store a v).faulted = ((s.cart.write a v).bankFault a).or s.faulted := by
  by_cases hc : inCart a = true
  · rw [s.store_cart v hc, State.writeCart_faulted]
  · have hnone : (s.cart.write a v).bankFault a = none := by
      rw [inCart_iff] at hc
      exact Cartridge.bankFault_eq_none fun ⟨_, hlo, hhi, _⟩ => by omega
    rw [hnone, Option.none_or]
    refine State.store_elim (P := fun t => t.faulted = s.faulted) s v ha (fun h => absurd h hc) ?_ ?_ ?_ ?_ ?_ ?_ ?_ ?_ ?_
      ?_ ?_ <;> intros <;> rfl

theorem State.writeFaults_iff (s : State) (a : Nat) (v : Byte) :
    s.writeFaults a v = true ↔
      s.lockedOut a = false ∧ s.cart.kind = .mbc1 ∧ 0x4000 ≤ a ∧ a ≤ 0x7FFF ∧ s.cart.hasRam = true ∧
        (if a ≤ 0x5FFF then s.cart.mbc.ramBanking else v.getLsbD 0) = true ∧ s.cart.ramBanks ≤ s.cart.bankAfter a v := by
  simp [State.writeFaults, and_assoc]

/-- The banking mode and the bank index a write at 0x4000 to 0x7FFF leaves, in the words of R113. -/
theorem Cartridge.bank_write {c : Cartridge} (hk : c.kind = .mbc1) {a : Nat} (v : Byte) (hlo : 0x4000 ≤ a)
    (hhi : a ≤ 0x7FFF) :
    (c.write a v).mbc.ramBanking = (if a ≤ 0x5FFF then c.mbc.ramBanking else v.getLsbD 0) ∧
      ((c.write a v).mbc.ramBanking = true → c.hasRam = true → (c.write a v).ramBank = c.bankAfter a v) := by
  by_cases h : a ≤ 0x5FFF
  · rw [Cartridge.write_bankHigh hk v hlo h, if_pos h, Cartridge.bankAfter, if_pos h]
    refine ⟨rfl, fun hmode hram => (if_pos (Bool.and_eq_true_iff.2 ⟨hmode, hram⟩)).trans ?_⟩
    rw [BitVec.toNat_setWidth]
  · rw [Cartridge.write_ramBanking hk v (by omega) hhi, if_neg h, Cartridge.bankAfter, if_neg h]
    exact ⟨rfl, fun hmode hram => if_pos (Bool.and_eq_true_iff.2 ⟨hmode, hram⟩)⟩

theorem State.bankOut_write_iff {s : State} (hk : s.cart.kind = .mbc1) {a : Nat} (v : Byte) (hlo : 0x4000 ≤ a)
    (hhi : a ≤ 0x7FFF) (hopen : s.lockedOut a = false) : (s.cart.write a v).BankOut ↔ s.writeFaults a v = true := by
  obtain ⟨hmode, hbank⟩ := Cartridge.bank_write hk v hlo hhi
  obtain ⟨-, -, -, hbanks, hram⟩ := s.cart.write_launch a v
  rw [State.writeFaults_iff, ← hmode, Cartridge.BankOut, hbanks, hram]
  constructor
  · rintro ⟨hm, hr, hout⟩
    exact ⟨hopen, hk, hlo, hhi, hr, hm, by rwa [← hbank hm hr]⟩
  · rintro ⟨-, -, -, -, hr, hm, hout⟩
    exact ⟨hm, hr, by rwa [hbank hm hr]⟩

theorem State.bankFault_write {s : State} {a : Nat} (v : Byte) (hopen : s.lockedOut a = false) :
    (s.cart.write a v).bankFault a = if s.writeFaults a v then some (s.writeFault a v) else none := by
  obtain ⟨-, hkind, -, hbanks, hram⟩ := s.cart.write_launch a v
  split
  · rename_i hf
    obtain ⟨-, hk, hlo, hhi, -⟩ := (s.writeFaults_iff a v).1 hf
    have hout := (State.bankOut_write_iff hk v hlo hhi hopen).2 hf
    obtain ⟨-, hbank⟩ := Cartridge.bank_write hk v hlo hhi
    obtain ⟨hm, hr, -⟩ := id hout
    rw [Cartridge.bankFault_eq_some (hkind.trans hk) hlo hhi hout, hbanks, hbank hm (hram ▸ hr)]
    rfl
  · rename_i hf
    refine Cartridge.bankFault_eq_none fun ⟨hk, hlo, hhi, hout⟩ => hf ?_
    exact (State.bankOut_write_iff (hkind ▸ hk) v hlo hhi hopen).1 hout

/-- Settles O33: a dropped write leaves the mark, any other sets it as the cartridge's check says. -/
theorem busWriteFault : Obligations.BusWriteFault := by
  unfold Obligations.BusWriteFault
  intro s a v
  refine ⟨s.write_frame a v, ?_⟩
  cases hl : s.lockedOut a.toNat with
  | true =>
    have hno : ¬ s.writeFaults a.toNat v = true := fun h => by simp [hl, State.writeFaults_iff] at h
    rw [State.write_of_lockedOut hl, if_neg hno]
  | false =>
    rw [State.write_of_open hl, s.store_faulted v a.isLt, State.bankFault_write v hl]
    split <;> rfl

/-! ### Where no step faults -/

/-- No fault mark, and a cartridge that cannot raise one. -/
def State.Unfaulted (s : State) : Prop :=
  s.faulted = none ∧ s.cart.BankSafe

theorem State.Unfaulted.write {s : State} (h : s.Unfaulted) (a : Word) (v : Byte) : (s.write a v).Unfaulted := by
  obtain ⟨hf, hsafe⟩ := h
  have hw := s.write_frame a v
  refine ⟨?_, by unfold Cartridge.BankSafe; rwa [hw.ramBanks, hw.kind, hw.hasRam]⟩
  cases hl : s.lockedOut a.toNat with
  | true => rw [State.write_of_lockedOut hl, hf]
  | false => rw [State.write_of_open hl, s.store_faulted v a.isLt, (hsafe.write _ v).bankFault, hf, Option.none_or]

theorem State.unfaulted_closed : Closed State.Unfaulted where
  set8 _ _ _ h := h
  set16 _ _ _ _ h := h
  setAf _ _ h := h
  setFlags _ _ h := h
  setPc _ _ h := h
  tick _ _ _ h := h
  write _ a v h := h.write a v
  setIme _ _ h := h
  armIme _ h := h
  clearIme _ h := h
  setHalt _ _ _ h := h
  lock _ h := h
  refuse _ _ h := h
  acknowledge _ _ h := h
  countdown s h := by
    unfold State.countdown
    split
    · exact h
    · split <;> exact h
  catchUp s h := by simpa [State.Unfaulted] using h

/-- Settles O34: `Unfaulted` is closed under every operation of a step. -/
theorem faultUnreachable : Obligations.FaultUnreachable := by
  unfold Obligations.FaultUnreachable
  rintro s t hsafe ⟨hf, -⟩ hst
  obtain ⟨hnone, -⟩ := step_closed State.unfaulted_closed ⟨hf, hsafe⟩ hst
  exact hnone

/-- Settles O38: each register's write by its range, the fault by the cartridge's check after it, and the bank functions by
the rules' masks. -/
theorem mbc1Registers : Obligations.Mbc1Registers := by
  unfold Obligations.Mbc1Registers
  intro s a v hdma hk t faults
  obtain ⟨-, hkind, -, hbanks, -⟩ := s.cart.write_launch a.toNat v
  have ht : a.toNat ≤ 0x7FFF → t = s.writeCart a.toNat v := fun h =>
    (State.write_of_open (State.lockedOut_of_idle hdma _) v).trans (s.store_cart v ((inCart_iff _).2 (.inl h)))
  have hcart : a.toNat ≤ 0x7FFF → t.cart = s.cart.write a.toNat v := fun h => by rw [ht h, State.writeCart_cart]
  have hok : a.toNat ≤ 0x3FFF → t = { s with cart := s.cart.write a.toNat v } := fun h =>
    (ht (by omega)).trans (State.writeCart_of_ok (Cartridge.bankFault_eq_none fun ⟨_, hlo, _⟩ => by omega))
  refine ⟨fun h => ?_, fun hlo hhi => ?_, fun hlo hhi => ?_, fun hlo hhi => ?_, fun hlo hhi =>
    ⟨?_, fun hout => ?_, fun hin => ?_, fun hpow hout => ?_⟩, s.cart.romBank_eq_rule, s.cart.ramBank_eq_rule, s.cart.one_le_romBank⟩
  · exact (hok (by omega)).trans (by rw [Cartridge.write_ramEnable hk v h])
  · exact (hok hhi).trans (by rw [Cartridge.write_bankLow hk v hlo hhi])
  · rw [hcart (by omega), Cartridge.write_bankHigh hk v hlo hhi]
  · rw [hcart hhi, Cartridge.write_ramBanking hk v hlo hhi]
  · rw [ht hhi, State.writeCart_eq]
  · have hout' : t.cart.BankOut := hout
    rw [ht hhi, State.writeCart_faulted, ← hcart hhi,
      Cartridge.bankFault_eq_some (by rw [hcart hhi, hkind, hk]) hlo hhi hout', ht hhi]
    rfl
  · rw [ht hhi, State.writeCart_faulted, ← hcart hhi, Cartridge.bankFault_eq_none fun ⟨_, _, _, hout⟩ => hin hout,
      Option.none_or]
  · obtain ⟨-, -, hle⟩ := hout
    refine absurd (Cartridge.ramBank_lt_of_two_pow (c := t.cart) ?_) (Nat.not_lt.2 hle)
    rwa [hcart hhi, hbanks]

/-! ### The cartridge's window -/

theorem Cartridge.read_romOnly {c : Cartridge} (hk : c.kind = .romOnly) (a : Nat) :
    c.read a = if a ≤ 0x7FFF then romGet c.rom a else 0xFF := by
  simp only [Cartridge.read, hk]
  rfl

theorem Cartridge.write_romOnly {c : Cartridge} (hk : c.kind = .romOnly) (a : Nat) (v : Byte) : c.write a v = c := by
  simp only [Cartridge.write, hk]

theorem Cartridge.read_fixedBank {c : Cartridge} (hk : c.kind = .mbc1) {a : Nat} (h : a ≤ 0x3FFF) :
    c.read a = romGet c.rom a := by
  simp only [Cartridge.read, hk, Cartridge.readMbc1, if_pos h]

theorem Cartridge.read_switchedBank {c : Cartridge} (hk : c.kind = .mbc1) {a : Nat} (hlo : 0x4000 ≤ a) (hhi : a ≤ 0x7FFF) :
    c.read a = romGet c.rom (c.romBank * 0x4000 + (a - 0x4000)) := by
  simp (disch := omega) only [Cartridge.read, hk, Cartridge.readMbc1, if_pos, if_neg]
  rfl

/-- With no cartridge RAM, or with it disabled, its window is open bus (R115, R116). -/
theorem Cartridge.ramWindow_closed {c : Cartridge} (hk : c.kind = .mbc1) {a : Nat} (v : Byte) (hlo : 0xA000 ≤ a)
    (h : c.hasRam = false ∨ c.mbc.ramEnabled = false) : c.read a = 0xFF ∧ c.write a v = c := by
  have hoff : ¬ (c.hasRam && c.mbc.ramEnabled) = true := by
    obtain h | h := h <;> simp [h]
  constructor
  · simp only [Cartridge.read, hk]
    rw [Cartridge.readMbc1, if_neg (by omega), if_neg (by omega), if_neg hoff]
    rfl
  · simp only [Cartridge.write, hk]
    rw [Cartridge.writeMbc1, if_neg (by omega), if_neg (by omega), if_neg (by omega), if_neg (by omega), if_neg hoff]

theorem State.read_cart {s : State} {a : Word} (hdma : s.ppu.dmaActive = false) (hc : inCart a.toNat = true)
    (hm : s.bootMapped = false ∨ 0x0100 ≤ a.toNat) : s.read a = s.cart.read a.toNat := by
  rw [State.read_of_open (State.lockedOut_of_idle hdma _), s.route_cart hc hm]

/-- A cartridge write that its check does not fault. -/
theorem State.write_cart {s : State} {a : Word} {v : Byte} (hdma : s.ppu.dmaActive = false) (hc : inCart a.toNat = true)
    (hok : (s.cart.write a.toNat v).bankFault a.toNat = none) :
    s.write a v = { s with cart := s.cart.write a.toNat v } := by
  rw [State.write_of_open (State.lockedOut_of_idle hdma _), s.store_cart v hc, State.writeCart_of_ok hok]

theorem State.write_cart_unchanged {s : State} {a : Word} {v : Byte} (hdma : s.ppu.dmaActive = false)
    (hc : inCart a.toNat = true) (hok : s.cart.bankFault a.toNat = none) (h : s.cart.write a.toNat v = s.cart) :
    s.write a v = s := by
  rw [State.write_cart hdma hc (by rwa [h]), h]

/-- Settles O39: the cartridge's own reads and writes, window by window. -/
theorem cartridgeWindow : Obligations.CartridgeWindow := by
  unfold Obligations.CartridgeWindow
  intro s a v hdma uncovered
  have hrom : a.toNat ≤ 0x7FFF → inCart a.toNat = true := fun h => (inCart_iff _).2 (.inl h)
  have hwin : 0xA000 ≤ a.toNat → a.toNat ≤ 0xBFFF → inCart a.toNat = true := fun hlo hhi =>
    (inCart_iff _).2 (.inr ⟨hlo, hhi⟩)
  refine ⟨fun hk => ?_, fun hk => ⟨fun hle hm => ?_, fun hlo hhi => ?_, fun hlo hhi =>
    ⟨fun hram hen hsize => ?_, fun hoff => ?_⟩⟩⟩
  · have hsafe : s.cart.BankSafe := .inr (.inl hk)
    have hdrop : inCart a.toNat = true → s.write a v = s := fun hc =>
      State.write_cart_unchanged hdma hc (hsafe.bankFault _) (Cartridge.write_romOnly hk _ v)
    refine ⟨fun hle => ⟨fun hm => ?_, hdrop (hrom hle)⟩, fun hlo hhi => ⟨?_, hdrop (hwin hlo hhi)⟩⟩
    · rw [State.read_cart hdma (hrom hle) hm, Cartridge.read_romOnly hk, if_pos hle]
    · rw [State.read_cart hdma (hwin hlo hhi) (.inr (by omega)), Cartridge.read_romOnly hk, if_neg (by omega)]
  · rw [State.read_cart hdma (hrom (by omega)) hm, Cartridge.read_fixedBank hk hle]
  · rw [State.read_cart hdma (hrom hhi) (.inr (by omega)), Cartridge.read_switchedBank hk hlo hhi]
  · have hat : s.cart.RamAt a.toNat := ⟨hk, hram, hen, hsize⟩
    refine ⟨?_, ?_⟩
    · rw [State.read_cart hdma (hwin hlo hhi) (.inr (by omega)), hat.read hlo]
      rfl
    · rw [State.write_cart hdma (hwin hlo hhi) (Cartridge.bankFault_eq_none fun ⟨_, _, h, _⟩ => by omega), hat.write hlo]
      rfl
  · obtain ⟨hread, hwrite⟩ := Cartridge.ramWindow_closed hk v hlo hoff
    have hok : s.cart.bankFault a.toNat = none := Cartridge.bankFault_eq_none fun ⟨_, _, h, _⟩ => by omega
    refine ⟨?_, State.write_cart_unchanged hdma (hwin hlo hhi) hok hwrite⟩
    rw [State.read_cart hdma (hwin hlo hhi) (.inr (by omega)), hread]

end Sys2Proof.Machine
end

section
/-! SUPPORT. The DMA lockout and the PPU's gates (spec/20_memory.md R92, spec/62_ppu.md R540, R541), and the catch-up of the
devices (R81, R82, R450, R500), which can be cut anywhere. O36 and O42. -/

namespace Sys2Proof.Machine

/-! ### The DMA lockout and the PPU's gates -/

theorem State.lockedOut_of_active {s : State} (h : s.ppu.dmaActive = true) (a : Nat) : s.lockedOut a = !inHram a := by
  simp [State.lockedOut, h]

theorem State.read_of_lockedOut {s : State} {a : Word} (h : s.lockedOut a.toNat = true) : s.read a = 0xFF := by
  unfold State.lockedOut at h
  simp only [State.read, State.busRead, Bool.not_false, Bool.and_true, h]
  rfl

/-- The DMA engine's own reads skip the lockout (R92). -/
theorem State.busRead_dma (s : State) (a : Word) : s.busRead true a = s.route a.toNat := by
  simp [State.busRead]

theorem Ppu.oamGated_iff (p : Ppu) : p.oamGated = true ↔ p.mode = .oamSearch ∨ p.mode = .drawing := by
  simp [Ppu.oamGated]

theorem Ppu.vramGated_iff (p : Ppu) : p.vramGated = true ↔ p.mode = .drawing := by
  simp [Ppu.vramGated]

/-- While a DMA runs, what lies outside HRAM is open bus to the CPU (R92). -/
theorem State.access_outside_hram {s : State} (hdma : s.ppu.dmaActive = true) {a : Word} (h : inHram a.toNat = false)
    (v : Byte) : s.read a = 0xFF ∧ s.write a v = s := by
  have hlock : s.lockedOut a.toNat = true := by rw [State.lockedOut_of_active hdma, h]; rfl
  exact ⟨State.read_of_lockedOut hlock, State.write_of_lockedOut hlock v⟩

/-- HRAM is the CPU's at any time (R92). -/
theorem State.access_hram (s : State) {a : Word} (h : inHram a.toNat = true) (v : Byte) :
    s.read a = memGet s.hram (a.toNat - 0xFF80) ∧
      s.write a v = { s with hram := memSet s.hram (a.toNat - 0xFF80) v } := by
  have hopen : s.lockedOut a.toNat = false := by simp [State.lockedOut, h]
  rw [State.read_of_open hopen, State.write_of_open hopen]
  exact ⟨s.route_hram h, s.store_hram v h⟩

/-- With no DMA, OAM on the bus is memory, or open bus where its gate is shut (R540). -/
theorem State.access_oam {s : State} (hdma : s.ppu.dmaActive = false) {a : Word} (hlo : 0xFE00 ≤ a.toNat)
    (hhi : a.toNat ≤ 0xFE9F) (v : Byte) :
    (s.ppu.oamGated = true → s.read a = 0xFF ∧ s.write a v = s) ∧
      (¬ s.ppu.oamGated = true → s.read a = memGet s.ppu.oam (a.toNat - 0xFE00) ∧
        s.write a v = { s with ppu := { s.ppu with oam := memSet s.ppu.oam (a.toNat - 0xFE00) v } }) := by
  have hopen := State.lockedOut_of_idle hdma a.toNat
  rw [State.read_of_open hopen, State.write_of_open hopen, s.route_oam hlo hhi, s.store_oam v hlo hhi, Ppu.readOam,
    Ppu.writeOam]
  refine ⟨fun hgate => ?_, fun hgate => ?_⟩
  · rw [if_pos hgate, if_pos hgate]
    exact ⟨rfl, rfl⟩
  · rw [if_neg hgate, if_neg hgate]
    exact ⟨rfl, rfl⟩

/-- With no DMA, VRAM on the bus is memory, or open bus where its gate is shut (R541). -/
theorem State.access_vram {s : State} (hdma : s.ppu.dmaActive = false) {a : Word} (hlo : 0x8000 ≤ a.toNat)
    (hhi : a.toNat ≤ 0x9FFF) (v : Byte) :
    (s.ppu.vramGated = true → s.read a = 0xFF ∧ s.write a v = s) ∧
      (¬ s.ppu.vramGated = true → s.read a = memGet s.ppu.vram (a.toNat - 0x8000) ∧
        s.write a v = { s with ppu := { s.ppu with vram := memSet s.ppu.vram (a.toNat - 0x8000) v } }) := by
  have hopen := State.lockedOut_of_idle hdma a.toNat
  rw [State.read_of_open hopen, State.write_of_open hopen, s.route_vram hlo hhi, s.store_vram v hlo hhi, Ppu.readVram,
    Ppu.writeVram]
  refine ⟨fun hgate => ?_, fun hgate => ?_⟩
  · rw [if_pos hgate, if_pos hgate]
    exact ⟨rfl, rfl⟩
  · rw [if_neg hgate, if_neg hgate]
    exact ⟨rfl, rfl⟩

/-- Settles O36: the lockout decides while a DMA runs, the gate of OAM or VRAM decides with none. -/
theorem accessGates : Obligations.AccessGates := by
  unfold Obligations.AccessGates
  refine ⟨fun s a v hdma => ⟨fun hout => ?_, fun hlo hhi => ?_, ?_, rfl⟩, fun p k => ⟨rfl, rfl⟩,
    fun s a v hdma => ⟨fun hlo hhi => ?_, fun hlo hhi => ?_⟩⟩
  · rw [← inHram_iff, Bool.not_eq_true] at hout
    exact State.access_outside_hram hdma hout v
  · exact s.access_hram ((inHram_iff _).2 ⟨hlo, hhi⟩) v
  · rw [s.busRead_dma a, State.read_of_open (State.lockedOut_of_idle rfl _)]
    rfl
  · obtain ⟨hshut, hopen⟩ := State.access_oam hdma hlo hhi v
    rw [Ppu.oamGated_iff] at hshut hopen
    refine ⟨hshut, fun hm => hopen ?_⟩
    obtain hm | hm := hm <;> simp [hm]
  · obtain ⟨hshut, hopen⟩ := State.access_vram hdma hlo hhi v
    rw [Ppu.vramGated_iff] at hshut hopen
    exact ⟨hshut, hopen⟩

/-! ### The mode sequencer leaves the DMA engine -/

/-- The DMA engine's registers (R66). -/
def Ppu.dma (p : Ppu) : Bool × Word × Nat :=
  (p.dmaActive, p.dmaSource, p.dmaIndex)

theorem Ppu.dma_evalEntry (p : Ppu) (i : Nat) : (p.evalEntry i).dma = p.dma := by
  unfold Ppu.evalEntry
  dsimp only
  split <;> rfl

theorem Ppu.dma_setLy (p : Ppu) (v : Byte) : (p.setLy v).1.dma = p.dma := by
  rw [Ppu.setLy_fst]
  rfl

theorem Ppu.dma_drawTick (p : Ppu) : p.drawTick.dma = p.dma := by
  rw [p.drawTick_eq]
  rfl

theorem Ppu.dma_endOamSearch (p : Ppu) : p.endOamSearch.1.dma = p.dma := rfl

theorem Ppu.dma_enterVblank (p : Ppu) : p.enterVblank.1.dma = p.dma := rfl

theorem Ppu.dma_startLine (p : Ppu) : p.startLine.1.dma = p.dma := rfl

theorem Ppu.dma_oamSearchTick (p : Ppu) : p.oamSearchTick.1.dma = p.dma := by
  have hend : ∀ q : Ppu, (if q.lineCycles = Config.oamSearchLength then q.endOamSearch else (q, 0)).1.dma = q.dma := by
    intro q
    split
    · exact q.dma_endOamSearch
    · rfl
  unfold Ppu.oamSearchTick
  dsimp only
  rw [hend]
  split
  · exact p.dma_evalEntry _
  · rfl

theorem Ppu.dma_drawingTick (p : Ppu) : p.drawingTick.1.dma = p.dma := by
  unfold Ppu.drawingTick
  dsimp only
  split
  · exact p.dma_drawTick
  · exact p.dma_drawTick

theorem Ppu.dma_endVisibleLine (p : Ppu) : p.endVisibleLine.1.dma = p.dma := by
  unfold Ppu.endVisibleLine
  dsimp only
  split
  · rw [Ppu.dma_enterVblank, Ppu.dma_setLy]
    rfl
  · rw [Ppu.dma_startLine, Ppu.dma_setLy]
    rfl

theorem Ppu.dma_endFrame (p : Ppu) : p.endFrame.1.dma = p.dma := by
  unfold Ppu.endFrame
  dsimp only
  rw [Ppu.dma_startLine, Ppu.dma_setLy]
  rfl

theorem Ppu.dma_hblankTick (p : Ppu) : p.hblankTick.1.dma = p.dma := by
  unfold Ppu.hblankTick
  split
  · exact p.dma_endVisibleLine
  · rfl

theorem Ppu.dma_vblankTick (p : Ppu) : p.vblankTick.1.dma = p.dma := by
  unfold Ppu.vblankTick
  split
  · dsimp only
    split
    · rw [Ppu.dma_setLy]
      rfl
    · rw [Ppu.dma_endFrame]
      rfl
  · rfl

theorem Ppu.dma_sequencerTick (p : Ppu) : p.sequencerTick.1.dma = p.dma := by
  unfold Ppu.sequencerTick
  split
  · unfold Ppu.modeTick
    dsimp only
    split
    · rw [Ppu.dma_oamSearchTick]
      rfl
    · rw [Ppu.dma_drawingTick]
      rfl
    · rw [Ppu.dma_hblankTick]
      rfl
    · rw [Ppu.dma_vblankTick]
      rfl
  · rfl

/-- The DMA engine's part of `PipeInv`, while a transfer runs: an index in range and a page of at most 0xDF (R66, R548). -/
def Ppu.DmaInv (p : Ppu) : Prop :=
  p.dmaActive = true → p.dmaIndex < Config.oamSize ∧ p.dmaSource.toNat ≤ 0xDF00

theorem Ppu.PipeInv.dmaInv {p : Ppu} (h : p.PipeInv) : p.DmaInv := by
  obtain ⟨-, -, -, -, -, -, -, -, hindex, hsource⟩ := h
  exact fun hact => ⟨hindex hact, hsource⟩

theorem Ppu.DmaInv.of_dma_eq {p q : Ppu} (h : p.DmaInv) (hq : q.dma = p.dma) : q.DmaInv := by
  simp only [Ppu.dma, Prod.mk.injEq] at hq
  obtain ⟨hact, hsource, hindex⟩ := hq
  unfold Ppu.DmaInv
  rwa [hact, hsource, hindex]

/-! ### A PPU T-cycle -/

/-- The sequencer's part of a PPU T-cycle, with its requests in IF (R501). -/
def State.sequencerTick (s : State) : State :=
  { s with ppu := s.ppu.sequencerTick.1 }.request s.ppu.sequencerTick.2

theorem State.ppuTick_eq_sequencerTick (s : State) :
    s.ppuTick = (if s.ppu.dmaActive then s.dmaStep else s).sequencerTick := rfl

theorem State.sequencerTick_of_off {s : State} (h : s.ppu.lcdc.getLsbD 7 = false) : s.sequencerTick = s := by
  have hidle : s.ppu.sequencerTick = (s.ppu, 0) := by
    rw [Ppu.sequencerTick, h]
    rfl
  simp [State.sequencerTick, State.request, hidle]

/-- One byte moved, and the transfer over at 160 (R546). -/
theorem State.dmaStep_eq (s : State) :
    s.dmaStep =
      { s with ppu := { s.ppu with
          oam := memSet s.ppu.oam s.ppu.dmaIndex (s.busRead true (s.ppu.dmaSource + BitVec.ofNat 16 s.ppu.dmaIndex))
          dmaIndex := s.ppu.dmaIndex + 1
          dmaActive := decide (s.ppu.dmaIndex + 1 ≠ 160) } } := by
  have hend : (s.ppu.dmaIndex + 1 != Config.oamSize) = decide (s.ppu.dmaIndex + 1 ≠ 160) := by
    rw [Bool.eq_iff_iff, bne_iff_ne, decide_eq_true_eq]
    rfl
  rw [← hend]
  rfl

theorem State.dmaInv_dmaStep {s : State} (h : s.ppu.DmaInv) (hact : s.ppu.dmaActive = true) : s.dmaStep.ppu.DmaInv := by
  obtain ⟨hindex, hsource⟩ := h hact
  rw [s.dmaStep_eq]
  refine fun hgo => ⟨?_, hsource⟩
  have hne : s.ppu.dmaIndex + 1 ≠ 160 := of_decide_eq_true hgo
  show s.ppu.dmaIndex + 1 < 160
  exact Nat.lt_of_le_of_ne hindex hne

theorem State.dmaInv_ppuTick {s : State} (h : s.ppu.DmaInv) : s.ppuTick.ppu.DmaInv := by
  have hdma : (if s.ppu.dmaActive then s.dmaStep else s).ppu.DmaInv :=
    ite_elim (P := fun t : State => t.ppu.DmaInv) (fun hact => State.dmaInv_dmaStep h hact) fun _ => h
  exact hdma.of_dma_eq (Ppu.dma_sequencerTick _)

/-! ### The PPU's T-cycles read nothing of the Timer -/

/-- `s` with the Clock and both watermarks at `c`, and what Timer T-cycles left: the Timer, and requests or-ed into IF. -/
def State.timed (s : State) (c : BitVec 64) (q : Timer × Irq) : State :=
  { s with cycles := c, ppuLast := c, timer := q.1, timerLast := c, iflag := s.iflag ||| q.2 }

theorem State.timed_of_cycles {s : State} {c : BitVec 64} (h : s.cycles = c) (q : Timer × Irq) :
    s.timed c q = { s with ppuLast := c, timer := q.1, timerLast := c, iflag := s.iflag ||| q.2 } := by
  subst h
  rfl

theorem State.timed_timed (s : State) (c d : BitVec 64) (q r : Timer × Irq) :
    (s.timed c q).timed d r = s.timed d (r.1, q.2 ||| r.2) := by
  simp [State.timed, BitVec.or_assoc]

/-- Below 0xE000 no device register is read. -/
theorem State.route_timed (s : State) (c : BitVec 64) (q : Timer × Irq) {a : Nat} (h : a < 0xE000) :
    (s.timed c q).route a = s.route a :=
  State.AgreesAt.route { timer := fun hlo _ => by omega, iflag := fun hif => by omega }

/-- The DMA engine's source stays below 0xE000 (R548). -/
theorem Ppu.DmaInv.source_lt {p : Ppu} (h : p.DmaInv) (hact : p.dmaActive = true) :
    (p.dmaSource + BitVec.ofNat 16 p.dmaIndex).toNat < 0xE000 := by
  obtain ⟨hindex, hsource⟩ := h hact
  simp only [Config.oamSize] at hindex
  rw [BitVec.toNat_add, BitVec.toNat_ofNat]
  omega

theorem State.dmaStep_timed {s : State} (h : s.ppu.DmaInv) (hact : s.ppu.dmaActive = true) (c : BitVec 64)
    (q : Timer × Irq) : (s.timed c q).dmaStep = s.dmaStep.timed c q := by
  unfold State.dmaStep
  dsimp only
  rw [show (s.timed c q).ppu = s.ppu from rfl, State.busRead_dma, State.busRead_dma, s.route_timed c q (h.source_lt hact)]
  rfl

theorem State.sequencerTick_timed (s : State) (c : BitVec 64) (q : Timer × Irq) :
    (s.timed c q).sequencerTick = s.sequencerTick.timed c q := by
  simp only [State.sequencerTick, State.timed, State.request, BitVec.or_assoc, BitVec.or_comm q.2]

theorem State.ppuTick_timed {s : State} (h : s.ppu.DmaInv) (c : BitVec 64) (q : Timer × Irq) :
    (s.timed c q).ppuTick = s.ppuTick.timed c q := by
  rw [State.ppuTick_eq_sequencerTick, State.ppuTick_eq_sequencerTick, ← State.sequencerTick_timed]
  refine congrArg State.sequencerTick ?_
  by_cases hact : s.ppu.dmaActive = true
  · rw [if_pos hact]
    exact (if_pos hact).trans (State.dmaStep_timed h hact c q)
  · rw [if_neg hact]
    exact if_neg hact

theorem State.ppuTicks_timed (n : Nat) {s : State} (h : s.ppu.DmaInv) (c : BitVec 64) (q : Timer × Irq) :
    State.ppuTicks n (s.timed c q) = (State.ppuTicks n s).timed c q := by
  induction n generalizing s with
  | zero => rfl
  | succ k ih =>
    rw [State.ppuTicks, State.ppuTicks, State.ppuTick_timed h, ih (State.dmaInv_ppuTick h)]

theorem State.dmaInv_ppuTicks (n : Nat) {s : State} (h : s.ppu.DmaInv) : (State.ppuTicks n s).ppu.DmaInv := by
  induction n generalizing s with
  | zero => exact h
  | succ k ih => exact ih (State.dmaInv_ppuTick h)

/-! ### Successive T-cycles -/

theorem State.ppuTicks_eq_iterate (n : Nat) (s : State) : State.ppuTicks n s = State.ppuTick^[n] s := by
  induction n generalizing s with
  | zero => rfl
  | succ k ih => exact ih s.ppuTick

theorem State.ppuTicks_add (m n : Nat) (s : State) :
    State.ppuTicks (m + n) s = State.ppuTicks n (State.ppuTicks m s) := by
  rw [Nat.add_comm, State.ppuTicks_eq_iterate, State.ppuTicks_eq_iterate, State.ppuTicks_eq_iterate,
    Function.iterate_add_apply]

/-- A Timer T-cycle after requests already raised. -/
def Timer.tickOr (t : Timer × Irq) : Timer × Irq :=
  (t.1.tick.1, t.2 ||| t.1.tick.2)

theorem Timer.iterate_tickOr (n : Nat) (t : Timer) (r : Irq) :
    Timer.tickOr^[n] (t, r) = ((Timer.ticks n t).1, r ||| (Timer.ticks n t).2) := by
  induction n generalizing t r with
  | zero => simp [Timer.ticks]
  | succ k ih =>
    rw [Function.iterate_succ_apply, Timer.tickOr, ih]
    simp only [Timer.ticks, BitVec.or_assoc]

theorem Timer.ticks_eq_iterate (n : Nat) (t : Timer) : Timer.ticks n t = Timer.tickOr^[n] (t, 0) := by
  simp [Timer.iterate_tickOr]

theorem Timer.ticks_add (m n : Nat) (t : Timer) :
    Timer.ticks (m + n) t =
      ((Timer.ticks n (Timer.ticks m t).1).1, (Timer.ticks m t).2 ||| (Timer.ticks n (Timer.ticks m t).1).2) := by
  rw [Nat.add_comm, Timer.ticks_eq_iterate (n + m), Function.iterate_add_apply, ← Timer.ticks_eq_iterate,
    ← Timer.iterate_tickOr]

/-! ### The catch-up -/

theorem State.ppuTicks_cycles (n : Nat) (s : State) : (State.ppuTicks n s).cycles = s.cycles := by
  rw [State.ppuTicks_eq]

theorem State.catchUp_eq_timed (s : State) :
    s.catchUp = (State.ppuTicks (s.cycles - s.ppuLast).toNat s).timed s.cycles
      (Timer.ticks (s.cycles - s.timerLast).toNat s.timer) := by
  unfold State.catchUp State.ppuUpdate
  rw [State.ppuTicks_eq]
  rfl

/-- The catch-up over `n` T-cycles from a state at its watermarks. -/
theorem State.catchUp_tick {s : State} (hclock : s.ClockInv) (hdma : s.ppu.DmaInv) {n : Nat} (hn : n < 2 ^ 64) :
    (s.tick n).catchUp = (State.ppuTicks n s).timed (s.cycles + BitVec.ofNat 64 n) (Timer.ticks n s.timer) := by
  obtain ⟨hp, ht⟩ := hclock
  have helapsed : (s.cycles + BitVec.ofNat 64 n - s.cycles).toNat = n := by
    rw [BitVec.add_comm, BitVec.add_sub_cancel, BitVec.toNat_ofNat, Nat.mod_eq_of_lt hn]
  rw [State.catchUp_eq_timed, State.tick_cycles, State.tick_ppuLast, State.tick_timerLast, hp, ht, helapsed,
    ← State.ppuTicks_timed n (s := s.tick n) hdma, ← State.ppuTicks_timed n hdma]
  rfl

/-- Catching up over `m + n` T-cycles is catching up over `m`, then over `n`: the PPU's later T-cycles do not see the Timer's
earlier ones. -/
theorem State.catchUp_add {s : State} (hclock : s.ClockInv) (hdma : s.ppu.DmaInv) {m n : Nat} (h : m + n < 2 ^ 64) :
    (s.tick (m + n)).catchUp = ((s.tick m).catchUp.tick n).catchUp := by
  have hcycles : s.cycles + BitVec.ofNat 64 (m + n) = s.cycles + BitVec.ofNat 64 m + BitVec.ofNat 64 n := by
    rw [BitVec.ofNat_add, BitVec.add_assoc]
  have hdma' := State.dmaInv_ppuTicks m hdma
  rw [State.catchUp_tick hclock hdma h, State.catchUp_tick hclock hdma (by omega),
    State.catchUp_tick (s := (State.ppuTicks m s).timed _ _) ⟨rfl, rfl⟩ hdma' (by omega),
    State.ppuTicks_timed n hdma', State.timed_timed, ← State.ppuTicks_add, hcycles, Timer.ticks_add]
  rfl

/-- Settles O42: the catch-up as iterated T-cycles, one PPU T-cycle, and the cut at `m`. -/
theorem catchUpEquivalence : Obligations.CatchUpEquivalence := by
  unfold Obligations.CatchUpEquivalence
  refine ⟨?_, ?_, fun s m n hclock hpipe h => State.catchUp_add hclock hpipe.dmaInv h⟩
  · intro s p q
    have hp : State.ppuTicks (s.cycles - s.ppuLast).toNat s = p := State.ppuTicks_eq_iterate _ s
    have hq : Timer.ticks (s.cycles - s.timerLast).toNat s.timer = q := Timer.ticks_eq_iterate _ s.timer
    rw [s.catchUp_eq_timed, hq, State.timed_of_cycles (State.ppuTicks_cycles _ s), hp]
  · intro s u
    exact ⟨State.sequencerTick_of_off (s := u), fun _ => rfl, s.dmaStep_eq⟩

end Sys2Proof.Machine
end

section
/-! SUPPORT. The encoding (spec/30_encoding.md R150 to R165): the decoder undoes the encoder on every instruction, the encoder
undoes the decoder on every first byte but STOP's, and what a step that fetches runs. -/

namespace Sys2Proof

/-! ### The two bytes of a 16-bit immediate (R159) -/

@[simp] theorem immHigh_append_immLow (nn : Word) : immHigh nn ++ immLow nn = nn := by
  apply BitVec.eq_of_toNat_eq
  simp only [immHigh, immLow, BitVec.toNat_append, BitVec.toNat_setWidth, BitVec.toNat_ushiftRight, Nat.shiftRight_eq_div_pow]
  rw [← Nat.shiftLeft_add_eq_or_of_lt (by omega), Nat.shiftLeft_eq]
  omega

@[simp] theorem immLow_append (hi lo : Byte) : immLow (hi ++ lo) = lo :=
  BitVec.setWidth_append_eq_right

@[simp] theorem immHigh_append (hi lo : Byte) : immHigh (hi ++ lo) = hi := by
  have h : immHigh (hi ++ lo) = (hi ++ lo).extractLsb' 8 8 := rfl
  rw [h, BitVec.extractLsb'_append_eq_left]

/-! ### Every instruction: what decoding its encoding gives -/

/-- The constructors with a 16-bit immediate put its two bytes together again; the others compute. -/
theorem decode_encode (i : Instr) (rest : List Byte) : decode (encode i ++ rest) = .ok (i, rest) := by
  cases i with
  | ldBcNn nn | ldMemNnSp nn | ldDeNn nn | ldHlNn nn | ldSpNn nn | jpNzNn nn | jpNn nn | callNzNn nn | jpZNn nn
  | callZNn nn | callNn nn | jpNcNn nn | callNcNn nn | jpCNn nn | callCNn nn | ldMemNnA nn | ldAMemNn nn =>
    conv_rhs => rw [← immHigh_append_immLow nn]
    rfl
  | _ => rfl

theorem encode_firstByte (i : Instr) : (encode i).head? = some i.firstByte := by
  cases i <;> rfl

/-! ### Every byte: what encoding its decoding gives -/

/-- A byte by its two nibbles, its row and column in the opcode maps (R161, R162). -/
theorem byte_eq_nibbles (b : Byte) : ∃ hi < 16, ∃ lo < 16, b = BitVec.ofNat 8 (16 * hi + lo) := by
  refine ⟨b.toNat / 16, by omega, b.toNat % 16, by omega, ?_⟩
  rw [Nat.div_add_mod, BitVec.ofNat_toNat, BitVec.setWidth_eq]

theorem opcodeLength_bounds (b : Byte) : 1 ≤ opcodeLength b ∧ opcodeLength b ≤ 3 := by
  obtain ⟨hi, hhi, lo, hlo, rfl⟩ := byte_eq_nibbles b
  interval_cases hi <;> interval_cases lo <;> decide

theorem Instr.wf_eq_true (i : Instr) : i.wf = true := by
  have h : 1 ≤ i.length ∧ i.length ≤ 3 := opcodeLength_bounds i.firstByte
  simp [Instr.wf, h]

theorem encode_decodeCb (cb : Byte) : encode (decodeCb cb) = [0xCB, cb] := by
  obtain ⟨hi, hhi, lo, hlo, rfl⟩ := byte_eq_nibbles cb
  interval_cases hi <;> interval_cases lo <;> rfl

/-- The opcode map entry by entry: 0xCB, STOP, and every other opcode with the operand bytes its length gives it. -/
theorem encode_decodeBytes_imm (b0 : Byte) (nn : Word) :
    encode (decodeBytes b0 (immLow nn) (immHigh nn)) =
      if b0 = 0xCB then encode (decodeCb (immLow nn))
      else if b0 = 0x10 then [0x10, 0x00]
      else [b0, immLow nn, immHigh nn].take (opcodeLength b0) := by
  unfold decodeBytes
  rw [immHigh_append_immLow]
  obtain ⟨hi, hhi, lo, hlo, rfl⟩ := byte_eq_nibbles b0
  interval_cases hi <;> interval_cases lo <;> rfl

theorem encode_decodeBytes {b0 : Byte} (h : b0 ≠ 0x10) (b1 b2 : Byte) :
    encode (decodeBytes b0 b1 b2) = [b0, b1, b2].take (opcodeLength b0) := by
  have hmap := encode_decodeBytes_imm b0 (b2 ++ b1)
  rw [immLow_append, immHigh_append, if_neg h] at hmap
  rw [hmap]
  split
  · rename_i hcb
    rw [hcb, encode_decodeCb]
    rfl
  · rfl

theorem firstByte_decodeBytes (b0 b1 b2 : Byte) : (decodeBytes b0 b1 b2).firstByte = b0 := by
  by_cases h : b0 = 0x10
  · subst h; rfl
  · have hpos : opcodeLength b0 ≠ 0 := Nat.ne_of_gt (opcodeLength_bounds b0).1
    have hhead := encode_firstByte (decodeBytes b0 b1 b2)
    rw [encode_decodeBytes h, List.head?_take, if_neg hpos] at hhead
    exact (Option.some.inj hhead).symm

theorem length_decodeBytes (b0 b1 b2 : Byte) : (decodeBytes b0 b1 b2).length = opcodeLength b0 :=
  congrArg opcodeLength (firstByte_decodeBytes b0 b1 b2)

/-! ### Lists of bytes -/

/-- Three bytes decode, and the bytes beyond the length of the first are not looked at (R151, R165). -/
theorem decode_three (b0 b1 b2 : Byte) (rest : List Byte) :
    decode (b0 :: b1 :: b2 :: rest) =
      .ok (decodeBytes b0 b1 b2, (b0 :: b1 :: b2 :: rest).drop (opcodeLength b0)) := by
  by_cases h : b0 = 0x10
  · subst h; rfl
  · have htake : encode (decodeBytes b0 b1 b2) = (b0 :: b1 :: b2 :: rest).take (opcodeLength b0) := by
      rw [encode_decodeBytes h]
      exact (List.take_append_of_le_length (opcodeLength_bounds b0).2).symm
    have hdecode := decode_encode (decodeBytes b0 b1 b2) ((b0 :: b1 :: b2 :: rest).drop (opcodeLength b0))
    rwa [htake, List.take_append_drop] at hdecode

/-- What a list that decodes holds: as many of three bytes as the first one fixes, then the rest. -/
theorem decode_eq_ok {bs rest : List Byte} {i : Instr} (h : decode bs = .ok (i, rest)) :
    ∃ b0 b1 b2, i = decodeBytes b0 b1 b2 ∧ bs = [b0, b1, b2].take (opcodeLength b0) ++ rest := by
  unfold decode at h
  split at h
  · cases h
  · rename_i b0 tail
    split at h
    case h_1 hl => cases h; exact ⟨b0, 0, 0, rfl, by rw [hl]; rfl⟩
    case h_2 b1 tl hl => cases h; exact ⟨b0, b1, 0, rfl, by rw [hl]; rfl⟩
    case h_3 b1 b2 tl hl => cases h; exact ⟨b0, b1, b2, rfl, by rw [hl]; rfl⟩
    case h_4 => cases h

end Sys2Proof

namespace Sys2Proof.Machine

/-- Settles O1: by cases on the instruction. -/
theorem decodeEncode : Obligations.DecodeEncode := by
  unfold Obligations.DecodeEncode
  exact fun i rest _ => decode_encode i rest

/-- Settles O2: STOP's first byte apart, by the encoding of what three bytes decode to. -/
theorem encodeDecode : Obligations.EncodeDecode := by
  unfold Obligations.EncodeDecode
  refine ⟨fun bs rest i h => ?_, fun b0 b1 b2 rest => ⟨_, _, decode_three b0 b1 b2 rest, length_decodeBytes b0 b1 b2⟩⟩
  refine ⟨i.wf_eq_true, ?_⟩
  obtain ⟨b0, b1, b2, hi, rfl⟩ := decode_eq_ok h
  by_cases hstop : b0 = 0x10
  · subst hstop
    exact ⟨fun hne => absurd hi hne, fun _ => ⟨b1, rfl⟩⟩
  · rw [← encode_decodeBytes hstop, ← hi]
    exact ⟨fun _ => rfl, fun hi => ⟨0x00, by rw [hi]; rfl⟩⟩

/-- Settles O3: each word is run through the decoder. -/
theorem specWordsDecode : Obligations.SpecWordsDecode := by
  unfold Obligations.SpecWordsDecode
  exact ⟨rfl, rfl, rfl, rfl, rfl, rfl, rfl, rfl, rfl, rfl, rfl, rfl, rfl, rfl⟩

/-! ### The fetch -/

/-- The step of R350 past its marks, waits and dispatches: waking changes nothing that the fetch reads. -/
theorem step_of_fetches {s : State} (h : s.Fetches) :
    step s =
      match exec s.fetchInstr { s.fetched s.fetchInstr with halted := false } with
      | .next t => .next (t.endInstr s.regs.pc)
      | .fault r => .fault r
      | .refused r => .refused r := by
  obtain ⟨⟨hfault, hrefusal⟩, hwaits, hdispatches⟩ := h
  have hawake : step s = stepAwake s.wake := by simp [step, hfault, hrefusal, hwaits]
  have hfetch : s.wake.dispatches = false := hdispatches
  rw [hawake, stepAwake, hfetch]
  rfl

/-- The fetch decodes what `decode` reads at the same three addresses. -/
theorem State.fetchInstr_of_decode {s : State} {i : Instr} {rest : List Byte}
    (h : decode [s.read s.regs.pc, s.read s.operandPc, s.read (s.operandPc + 1)] = .ok (i, rest)) : s.fetchInstr = i := by
  rw [decode_three] at h
  cases h
  rfl

theorem State.operandPc_of_not_haltBug {s : State} (h : s.haltBug = false) : s.operandPc = s.regs.pc + 1 := by
  simp [State.operandPc, h]

theorem State.fetched_of_not_haltBug {s : State} (h : s.haltBug = false) (i : Instr) :
    s.fetched i = s.setPc (s.regs.pc + BitVec.ofNat 16 (1 + fetchedOperands i)) := by
  rw [State.fetched, State.operandPc_of_not_haltBug h, BitVec.add_assoc, BitVec.ofNat_add, ← h]
  rfl

/-- Settles O4: the step is the awake one, which runs what the fetch decodes on the state after the fetch. -/
theorem stepRunsDecoded : Obligations.StepRunsDecoded := by
  unfold Obligations.StepRunsDecoded
  intro s i rest hs hbug hdecode _
  have hnext : s.operandPc = s.regs.pc + 1 := State.operandPc_of_not_haltBug hbug
  have hinstr : s.fetchInstr = i := by
    apply State.fetchInstr_of_decode (rest := rest)
    rw [hnext, BitVec.add_assoc]
    exact hdecode
  have hstep := step_of_fetches hs
  rw [hinstr, State.fetched_of_not_haltBug hbug] at hstep
  exact hstep

end Sys2Proof.Machine
end

section
/-! SUPPORT. The 8-bit loads (spec/40_load8.md R201 to R219) and the register forms of the 16-bit loads (R231, R233): how each
family with a register field encodes and which shape of Operands.lean it runs, and what each of those shapes does. O15, O16 and
O17. -/

namespace Sys2Proof.Machine

/-! ### The families with a register or a pair field -/

theorem encode_ldRegReg (r q : Reg8) : encode (.ldRegReg r q) = [opByte (0x40 + 8 * regCode r + regCode q)] := by
  cases r <;> cases q <;> rfl

theorem exec_ldRegReg (r q : Reg8) (s : State) : exec (.ldRegReg r q) s = loadReg r (s.regs.get8 q) 4 s := by
  cases r <;> cases q <;> rfl

theorem encode_ldRegN (r : Reg8) (n : Byte) : encode (.ldRegN r n) = [opByte (0x06 + 8 * regCode r), n] := by
  cases r <;> rfl

theorem exec_ldRegN (r : Reg8) (n : Byte) (s : State) : exec (.ldRegN r n) s = loadReg r n 8 s := by
  cases r <;> rfl

theorem encode_ldPairNn (p : PairSp) (nn : Word) :
    encode (.ldPairNn p nn) = [opByte (0x01 + 16 * pairSpCode p), loByte nn, hiByte nn] := by
  cases p <;> rfl

theorem exec_ldPairNn (p : PairSp) (nn : Word) (s : State) :
    exec (.ldPairNn p nn) s = loadPair (pairSpReg p) nn 12 s := by
  cases p <;> rfl

theorem encode_ldRegMemHl (r : Reg8) : encode (.ldRegMemHl r) = [opByte (0x46 + 8 * regCode r)] := by
  cases r <;> rfl

theorem exec_ldRegMemHl (r : Reg8) (s : State) : exec (.ldRegMemHl r) s = loadReg r (s.read s.hl) 8 s := by
  cases r <;> rfl

theorem encode_ldMemHlReg (r : Reg8) : encode (.ldMemHlReg r) = [opByte (0x70 + regCode r)] := by
  cases r <;> rfl

theorem exec_ldMemHlReg (r : Reg8) (s : State) : exec (.ldMemHlReg r) s = storeByte s.hl (s.regs.get8 r) 8 s := by
  cases r <;> rfl

/-! ### Addresses -/

/-- The high page as a sum (R160). -/
theorem highPage_eq_add (n : Byte) : highPage n = 0xFF00 + n.setWidth 16 := by
  apply BitVec.eq_of_toNat_eq
  have hn := n.isLt
  have hpage : (highPage n).toNat = 0xFF00 + n.toNat := toNat_wordOf 0xFF n
  rw [hpage, BitVec.toNat_add, BitVec.toNat_setWidth, Nat.mod_eq_of_lt (by omega : n.toNat < 2 ^ 16)]
  exact (Nat.mod_eq_of_lt (by simp; omega)).symm

/-- The (HL-) forms move HL by -1, which is one down (R217, R219). -/
theorem State.hl_add_neg_one (s : State) : s.hl + (-1) = s.regs.get16 .hl - 1 :=
  (BitVec.sub_eq_add_neg _ _).symm

/-! ### What a load does -/

/-- An instruction that only sets the registers and the Clock leaves the bus: no read looks at either. -/
theorem Completes.of_advance {i : Instr} {s : State} {g : Regs} {cost : Nat} (h : exec i s = .next (s.advance g cost)) :
    Completes i s g cost :=
  ⟨h, fun _ => rfl⟩

theorem Completes.of_loadReg {i : Instr} {s : State} {r : Reg8} {v : Byte} {cost : Nat}
    (h : exec i s = loadReg r v cost s) : Completes i s (s.regs.set8 r v) cost :=
  .of_advance h

theorem Completes.of_loadPair {i : Instr} {s : State} {rr : Reg16} {v : Word} {cost : Nat}
    (h : exec i s = loadPair rr v cost s) : Completes i s (s.regs.set16 rr v) cost :=
  .of_advance h

theorem Completes.of_loadAStep {i : Instr} {s : State} {d : Word} {cost : Nat} (h : exec i s = loadAStep d cost s) :
    Completes i s ({ s.regs with a := s.read s.hl }.set16 .hl (s.hl + d)) cost :=
  .of_advance h

/-! ### What a one-byte store does -/

theorem State.write_faulted_of_ok {s : State} {a : Word} {v : Byte} (h : s.writeFaults a.toNat v = false) :
    (s.write a v).faulted = s.faulted := by
  obtain ⟨-, hmark⟩ := busWriteFault s a v
  exact hmark.trans (if_neg (Bool.eq_false_iff.1 h))

theorem State.write_faulted_of_fault {s : State} {a : Word} {v : Byte} (h : s.writeFaults a.toNat v = true) :
    (s.write a v).faulted = some (s.writeFault a.toNat v) := by
  obtain ⟨-, hmark⟩ := busWriteFault s a v
  exact hmark.trans (if_pos h)

/-- One bus write followed by `k`, which runs where the write raises no fault and is skipped where it does (R420): the write
leaves the registers to `k`, and no read looks at the registers or the Clock, which are all that `k` sets. -/
theorem Stores.of_andThen {i : Instr} {s : State} {a : Word} {v : Byte} {g : Regs} {cost : Nat} {k : State → State}
    (h : exec i s = .next ((s.write a v).andThen k)) (hk : ∀ t : State, t.regs = s.regs → k t = t.advance g cost) :
    Stores i s a v g cost := by
  intro hnone
  have hframe : CpuFrame s (s.write a v) := s.write_frame a v
  refine ⟨fun hok => ?_, fun hfault => ?_⟩
  · have hmark : (s.write a v).faulted = none := (State.write_faulted_of_ok hok).trans hnone
    obtain ⟨hbyte, -⟩ := readAfterWrite s a v
    rw [State.andThen_of_none _ _ hmark, hk _ (s.write_regs a v)] at h
    exact ⟨_, h, rfl, hframe, hmark, hbyte⟩
  · have hmark := State.write_faulted_of_fault hfault
    rw [State.andThen_of_some _ _ hmark] at h
    exact ⟨h, hmark, hframe⟩

theorem Stores.of_storeByte {i : Instr} {s : State} {a : Word} {v : Byte} {cost : Nat}
    (h : exec i s = storeByte a v cost s) : Stores i s a v s.regs cost := by
  refine .of_andThen h fun t ht => ?_
  rw [← ht]
  rfl

/-- HL moves from where it was before the store, which leaves it. -/
theorem Stores.of_storeAStep {i : Instr} {s : State} {d : Word} {cost : Nat} (h : exec i s = storeAStep d cost s) :
    Stores i s s.hl s.regs.a (s.regs.set16 .hl (s.hl + d)) cost := by
  refine .of_andThen h fun t ht => ?_
  have hhl : t.hl = s.hl := congrArg (·.get16 .hl) ht
  rw [← ht, ← hhl]
  rfl

/-! ### The statements -/

/-- Settles O15: each form runs one of the two register loads. -/
theorem registerLoads : Obligations.RegisterLoads := by
  unfold Obligations.RegisterLoads
  intro s r q p n nn
  exact ⟨⟨encode_ldRegReg r q, .of_loadReg (exec_ldRegReg r q s)⟩, ⟨encode_ldRegN r n, .of_loadReg (exec_ldRegN r n s)⟩,
    ⟨encode_ldPairNn p nn, .of_loadPair (exec_ldPairNn p nn s)⟩, ⟨rfl, .of_loadPair (rr := .sp) rfl⟩⟩

/-- Settles O16: each form is a register load of the byte read, or that and HL moved. -/
theorem memoryLoads : Obligations.MemoryLoads := by
  unfold Obligations.MemoryLoads
  intro s r n nn hl
  rw [← highPage_eq_add, ← highPage_eq_add, ← s.hl_add_neg_one]
  exact ⟨⟨encode_ldRegMemHl r, .of_loadReg (exec_ldRegMemHl r s)⟩, ⟨rfl, .of_loadReg (r := .a) rfl⟩,
    ⟨rfl, .of_loadReg (r := .a) rfl⟩, ⟨rfl, .of_loadReg (r := .a) rfl⟩, ⟨rfl, .of_loadReg (r := .a) rfl⟩,
    ⟨rfl, .of_loadReg (r := .a) rfl⟩, ⟨rfl, .of_loadAStep (d := 1) rfl⟩, ⟨rfl, .of_loadAStep (d := -1) rfl⟩⟩

/-- Settles O17: each form is one bus write, and in the (HL+) and (HL-) forms HL moved after it. -/
theorem memoryStores : Obligations.MemoryStores := by
  unfold Obligations.MemoryStores
  intro s r n nn hl
  rw [← highPage_eq_add, ← highPage_eq_add, ← s.hl_add_neg_one]
  exact ⟨⟨encode_ldMemHlReg r, .of_storeByte (exec_ldMemHlReg r s)⟩, ⟨rfl, .of_storeByte rfl⟩, ⟨rfl, .of_storeByte rfl⟩,
    ⟨rfl, .of_storeByte rfl⟩, ⟨rfl, .of_storeByte rfl⟩, ⟨rfl, .of_storeByte rfl⟩, ⟨rfl, .of_storeByte rfl⟩,
    ⟨rfl, .of_storeAStep (d := 1) rfl⟩, ⟨rfl, .of_storeAStep (d := -1) rfl⟩⟩

end Sys2Proof.Machine
end

section
/-! SUPPORT. The 16-bit loads, PUSH and POP (spec/41_load16.md R230 to R237) and ADD SP,e (R284): what a first store leaves of
where a second one goes, what a two-byte store does, and the law of the stack. O18, O19, O20 and O21. -/

namespace Sys2Proof.Machine

/-! ### What one store leaves for the next -/

/-- `q` differs from `p` in registers that move neither a mode nor a memory, and requests nothing. -/
def Ppu.SetsRegisters (p : Ppu) (q : Ppu × Irq) : Prop :=
  ∃ statSel scy scx lyc bgp obp0 obp1 wy wx,
    q = ({ p with statSel := statSel, scy := scy, scx := scx, lyc := lyc, bgp := bgp, obp0 := obp0, obp1 := obp1,
                  wy := wy, wx := wx }, 0)

/-- Only LCDC and DMA act on more than their register (R532, R533, R545). -/
theorem Ppu.setsRegisters_writeReg (p : Ppu) {a : Nat} (v : Byte) (hlcdc : a ≠ 0xFF40) (hdma : a ≠ 0xFF46) :
    p.SetsRegisters (p.writeReg a v) := by
  unfold Ppu.writeReg
  refine ite_elim (P := p.SetsRegisters) (fun h => absurd h hlcdc) fun _ => ?_
  iterate 5 refine ite_elim (P := p.SetsRegisters) (fun _ => ⟨_, _, _, _, _, _, _, _, _, rfl⟩) fun _ => ?_
  refine ite_elim (P := p.SetsRegisters) (fun h => absurd h hdma) fun _ => ?_
  iterate 4 refine ite_elim (P := p.SetsRegisters) (fun _ => ⟨_, _, _, _, _, _, _, _, _, rfl⟩) fun _ => ?_
  exact ⟨_, _, _, _, _, _, _, _, _, rfl⟩

/-- `t` stores where `s` does, and its memories are in canonical form if those of `s` are. -/
def State.KeepsStorage (s t : State) : Prop :=
  (s.MemInv → t.MemInv) ∧ ∀ b, t.storesAt b = s.storesAt b

/-- A store at no control address moves no gate and no bank. -/
theorem State.keepsStorage_store (s : State) {a : Nat} (v : Byte) (ha : a < 0x10000) (hctl : s.isControl a = false) :
    s.KeepsStorage (s.store a v) := by
  obtain ⟨hmbc, hlcdc, hdma, -⟩ := (s.isControl_eq_false_iff a).1 hctl
  refine State.store_elim (P := s.KeepsStorage) s v ha (fun _ => ?_) (fun k hk => ?_) (fun k hk => ?_) ?_
    (fun hlo hhi => ?_) (fun hlo hhi => ?_) ⟨id, fun _ => rfl⟩ ⟨id, fun _ => rfl⟩ ⟨id, fun _ => rfl⟩ ⟨id, fun _ => rfl⟩
    ⟨id, fun _ => rfl⟩ ?_
  · rw [State.writeCart_eq]
    refine ⟨fun ⟨hw, hh, hg, hc, hppu⟩ => ⟨hw, hh, hg, s.cart.write_cram_wf a v hc, hppu⟩, fun b => ?_⟩
    obtain hcart | ⟨-, hcart⟩ := s.cart.write_cases v hmbc <;> rw [hcart] <;> rfl
  · exact ⟨fun ⟨hw, hrest⟩ => ⟨Memory.wf_memSet hw hk v, hrest⟩, fun _ => rfl⟩
  · exact ⟨fun ⟨hw, hh, hrest⟩ => ⟨hw, Memory.wf_memSet hh hk v, hrest⟩, fun _ => rfl⟩
  · obtain ⟨_, _, _, _, _, _, _, _, _, hreg⟩ := s.ppu.setsRegisters_writeReg v hlcdc hdma
    rw [State.writePpuReg, hreg]
    exact ⟨id, fun _ => rfl⟩
  · refine ⟨fun ⟨hw, hh, hg, hc, hv, ho, hf⟩ => ?_, fun b => by rw [s.ppu.writeOam_eq a v]; rfl⟩
    unfold Ppu.writeOam
    split
    · exact ⟨hw, hh, hg, hc, hv, ho, hf⟩
    · exact ⟨hw, hh, hg, hc, hv, Memory.wf_memSet ho (by simp only [Config.oamSize]; omega) v, hf⟩
  · refine ⟨fun ⟨hw, hh, hg, hc, hv, ho, hf⟩ => ?_, fun b => by rw [s.ppu.writeVram_eq a v]; rfl⟩
    unfold Ppu.writeVram
    split
    · exact ⟨hw, hh, hg, hc, hv, ho, hf⟩
    · exact ⟨hw, hh, hg, hc, Memory.wf_memSet hv (by simp only [Config.vramSize]; omega) v, ho, hf⟩
  · exact ⟨fun ⟨hw, hh, hg, hrest⟩ => ⟨hw, hh, Memory.wf_memSet hg ha v, hrest⟩, fun _ => rfl⟩

theorem State.isControl_write (s : State) (a : Word) (v : Byte) (b : Nat) : (s.write a v).isControl b = s.isControl b := by
  have hframe := s.write_frame a v
  unfold State.isControl
  rw [hframe.kind, hframe.joypadParam]

/-- A quiet write is dropped, or stores at no control address: what holds of both outcomes holds of the write. -/
theorem State.write_elim_of_quiet {P : State → Prop} {s : State} {a : Word} (v : Byte) (hq : s.quiet a.toNat = true)
    (hdropped : P s) (hstored : s.isControl a.toNat = false → P (s.store a.toNat v)) : P (s.write a v) := by
  cases hl : s.lockedOut a.toNat with
  | true => rwa [State.write_of_lockedOut hl]
  | false =>
    rw [State.write_of_open hl]
    exact hstored (by simpa [State.quiet, hl] using hq)

theorem State.keepsStorage_write {s : State} {a : Word} (v : Byte) (hq : s.quiet a.toNat = true) :
    s.KeepsStorage (s.write a v) :=
  State.write_elim_of_quiet v hq ⟨id, fun _ => rfl⟩ (s.keepsStorage_store v a.isLt)

theorem State.quiet_write {s : State} {a : Word} (v : Byte) (hq : s.quiet a.toNat = true) (b : Nat) :
    (s.write a v).quiet b = s.quiet b := by
  have hlock : (s.write a v).lockedOut b = s.lockedOut b :=
    State.write_elim_of_quiet (P := fun t => t.lockedOut b = s.lockedOut b) v hq rfl
      fun hctl => s.lockedOut_store v a.isLt hctl b
  unfold State.quiet
  rw [hlock, s.isControl_write a v b]

theorem State.quiet_of_storesAt {s : State} {a : Nat} (h : s.storesAt a = true) : s.quiet a = true := by
  simp [State.quiet, State.isControl_of_storesAt h]

/-- No byte is stored in the cartridge's ROM. -/
theorem State.rom_lt_of_storesAt {s : State} {a : Nat} (h : s.storesAt a = true) : 0x7FFF < a := by
  obtain ⟨-, hcases⟩ := State.storesAt_cases h
  rw [inHram_iff, isPlainReg_iff, isGen_iff] at hcases
  omega

/-- R113's fault is raised in the cartridge's ROM range only. -/
theorem State.writeFaults_of_rom_lt (s : State) {a : Nat} (v : Byte) (h : 0x7FFF < a) : s.writeFaults a v = false := by
  simp [State.writeFaults, Nat.not_le.2 h]

/-! ### What a two-byte store does -/

theorem SameCell.symm {a b : Nat} (h : SameCell a b) : SameCell b a := by
  omega

theorem State.writeTwice_frame (s : State) (a : Word) (v : Byte) (b : Word) (w : Byte) :
    CpuFrame s (s.writeTwice a v b w) :=
  (s.write_frame a v).trans ((s.write a v).write_frame b w)

/-- Both bytes are stored, and nothing else: the second write leaves the first byte, and finds its own cell open as it was. -/
theorem State.writeTwice_bytes (s : State) (a : Word) (v : Byte) (b : Word) (w : Byte) :
    TwoByteFrame s (s.writeTwice a v b w) a v b w := by
  obtain ⟨hfirst, hother⟩ := (readAfterWrite s a v).1
  obtain ⟨hsecond, hothers⟩ := (readAfterWrite (s.write a v) b w).1
  refine ⟨fun hmem ha hb hab => ?_, fun ha hb c hac hbc => ?_⟩
  · have hqa := State.quiet_of_storesAt ha
    have hqb := (State.quiet_write v hqa b.toNat).trans (State.quiet_of_storesAt hb)
    obtain ⟨hcanon, hstores⟩ := State.keepsStorage_write v hqa
    exact ⟨(hothers hqb a fun h => hab h.symm).trans (hfirst hmem ha), hsecond (hcanon hmem) ((hstores _).trans hb)⟩
  · exact (hothers ((State.quiet_write v ha _).trans hb) c hbc).trans (hother ha c hac)

/-- Two writes that leave the registers `g1` after a first that faults and `g2` after both, followed by `k`, which runs where
neither faults (R420). -/
theorem StoresTwice.of_andThen {i : Instr} {s u : State} {a : Word} {v : Byte} {b : Word} {w : Byte} {g g1 g2 : Regs}
    {cost : Nat} {k : State → State} (h : exec i s = .next (u.andThen k))
    (hfirst : s.writeFaults a.toNat v = true → u = { s.write a v with regs := g1 })
    (hboth : (s.write a v).faulted = none → u = { s.writeTwice a v b w with regs := g2 })
    (hk : ∀ t : State, t.regs = g2 → k t = t.advance g cost) : StoresTwice i s a v b w g g1 g2 cost := by
  intro hnone
  have hmark : s.writeFaults a.toNat v = false → (s.write a v).faulted = none :=
    fun hok => (State.write_faulted_of_ok hok).trans hnone
  refine ⟨fun hok hok' => ?_, fun hfault => ?_, fun hok hfault => ?_⟩
  · have hmark' : (s.writeTwice a v b w).faulted = none := (State.write_faulted_of_ok hok').trans (hmark hok)
    have hu : u.faulted = none := by rw [hboth (hmark hok)]; exact hmark'
    rw [State.andThen_of_none _ _ hu, hboth (hmark hok), hk _ rfl] at h
    exact ⟨_, h, rfl, s.writeTwice_frame a v b w, hmark', s.writeTwice_bytes a v b w⟩
  · have hmark' := State.write_faulted_of_fault hfault
    have hu : u.faulted = some (s.writeFault a.toNat v) := by rw [hfirst hfault]; exact hmark'
    rw [State.andThen_of_some _ _ hu, hfirst hfault] at h
    exact ⟨h, hmark', s.write_frame a v⟩
  · have hmark' : (s.writeTwice a v b w).faulted = some ((s.write a v).writeFault b.toNat w) :=
      State.write_faulted_of_fault hfault
    have hu : u.faulted = some ((s.write a v).writeFault b.toNat w) := by rw [hboth (hmark hok)]; exact hmark'
    rw [State.andThen_of_some _ _ hu, hboth (hmark hok)] at h
    exact ⟨h, hmark', s.writeTwice_frame a v b w⟩

/-- A state with the registers it has. -/
theorem State.withRegs_of_eq {t : State} {g : Regs} (h : t.regs = g) : t = { t with regs := g } := by
  rw [← h]

theorem StoresTwice.of_write16 {i : Instr} {s : State} {a v : Word} {cost : Nat}
    (h : exec i s = .next ((s.write16 a v).andThen fun t => t.tick cost)) :
    StoresTwice i s a (loByte v) (a + 1) (hiByte v) s.regs s.regs s.regs cost := by
  refine .of_andThen h (fun hfault => ?_) (fun hok => ?_) fun t ht => ?_
  · exact (State.andThen_of_some _ _ (State.write_faulted_of_fault hfault)).trans
      (State.withRegs_of_eq (s.write_regs a (loByte v)))
  · exact (State.write16_of_ok hok).trans (State.withRegs_of_eq (s.writeTwice_frame _ _ _ _).regs)
  · rw [← ht]
    rfl

theorem State.setSp_of_regs {t : State} {g : Regs} (h : t.regs = g) (w : Word) :
    t.setSp w = { t with regs := { g with sp := w } } := by
  rw [← h]
  rfl

/-- A push followed by `k`, which moves pc to `target` and the Clock by `cost` (R234, R326, R331). -/
theorem Pushes.of_push16 {i : Instr} {s : State} {v target : Word} {cost : Nat} {k : State → State}
    (h : exec i s = .next ((s.push16 v).andThen k))
    (hk : ∀ t : State, t.regs = { s.regs with sp := s.regs.sp - 2 } →
      k t = t.advance { s.regs with sp := s.regs.sp - 2, pc := target } cost) : Pushes i s v target cost := by
  refine StoresTwice.of_andThen h (fun hfault => ?_) (fun hok => ?_) hk
  · exact (State.push16_of_fault (State.write_faulted_of_fault hfault)).trans (State.setSp_of_regs (s.write_regs _ _) _)
  · exact (State.push16_of_ok hok).trans (State.setSp_of_regs (s.writeTwice_frame _ _ _ _).regs _)

/-! ### The families with a pair field -/

theorem encode_push (p : PairAf) : encode (.push p) = [opByte (0xC5 + 16 * pairAfCode p)] := by
  cases p <;> rfl

theorem exec_push (p : PairAf) (s : State) : exec (.push p) s = pushPair (pairAfReg p) 16 s := by
  cases p <;> rfl

theorem encode_pop (p : PairAf) : encode (.pop p) = [opByte (0xC1 + 16 * pairAfCode p)] := by
  cases p <;> rfl

/-- POP AF alone masks what it takes (R235, R236). -/
theorem exec_pop (p : PairAf) (s : State) :
    exec (.pop p) s =
      .next ((s.dropTop.set16 (pairAfReg p) (if p = PairAf.af then s.top16 &&& 0xFFF0 else s.top16)).tick 12) := by
  cases p <;> rfl

/-- Settles O18: LD (nn),SP is one `write16`, PUSH one `push16`; both are a two-byte store. -/
theorem wordStores : Obligations.WordStores := by
  unfold Obligations.WordStores
  intro s p nn
  refine ⟨⟨rfl, .of_write16 rfl⟩, encode_push p, .of_push16 (exec_push p s) fun t ht => ?_⟩
  show t.tick 16 = t.advance { s.regs with sp := s.regs.sp - 2 } 16
  rw [← ht]
  rfl

/-- Settles O19: POP sets the registers and the Clock only. -/
theorem pops : Obligations.Pops := by
  unfold Obligations.Pops
  intro s p v
  exact ⟨encode_pop p, .of_advance (exec_pop p s)⟩

/-! ### PUSH, then POP -/

/-- The two stack bytes are neighbours. -/
theorem sub_two_add_one (sp : Word) : sp - 2 + 1 = sp - 1 := by
  bv_omega

/-- Neither stack byte is the other's echo. -/
theorem not_sameCell_push (sp : Word) : ¬ SameCell (sp - 1).toNat (sp - 2).toNat := by
  rw [← sub_two_add_one]
  show ¬ SameCell (((sp - 2).toNat + 1) % 65536) (sp - 2).toNat
  omega

theorem Regs.sp_set16_pairAf (g : Regs) (p : PairAf) (v : Word) : (g.set16 (pairAfReg p) v).sp = g.sp := by
  cases p <;> rfl

/-- A pair written with the value it has. -/
theorem Regs.set16_get16 (g : Regs) (r : Reg16) : g.set16 r (g.get16 r) = g := by
  cases r <;> simp [Regs.get16, Regs.set16]

/-- Where F[3:0] = 0 the mask of POP AF changes nothing (R34, R236). -/
theorem Regs.get16_af_masked {g : Regs} (h : g.f &&& 0x0F = 0) : g.get16 .af &&& 0xFFF0 = g.get16 .af := by
  have hf : g.f &&& 0xF0 = g.f :=
    calc g.f &&& 0xF0 = g.f &&& 0xF0 ||| g.f &&& 0x0F := by rw [h]; exact BitVec.or_zero.symm
      _ = g.f &&& (0xF0 ||| 0x0F) := BitVec.and_or_distrib_left.symm
      _ = g.f := BitVec.and_allOnes
  have ha : g.a &&& 0xFF = g.a := BitVec.and_allOnes
  calc g.get16 .af &&& 0xFFF0 = (g.a &&& 0xFF) ++ (g.f &&& 0xF0) := BitVec.and_append (x₂ := 0xFF) (y₂ := 0xF0)
    _ = g.get16 .af := by rw [ha, hf]; rfl

/-- PUSH onto storage leaves the pair on top of the stack, with nothing else of the registers changed but SP. -/
theorem exec_push_of_storesAt {s : State} (p : PairAf) (hnone : s.faulted = none) (hmem : s.MemInv)
    (hhi : s.storesAt (s.regs.sp - 1).toNat = true) (hlo : s.storesAt (s.regs.sp - 2).toNat = true) :
    ∃ t, exec (.push p) s = .next t ∧ t.dropTop.regs = s.regs ∧ t.top16 = s.regs.get16 (pairAfReg p) := by
  obtain ⟨-, -, hpush⟩ := wordStores s p 0
  obtain ⟨hok, -⟩ := hpush hnone
  obtain ⟨t, hexec, ht, -, -, hbytes, -⟩ := hok (s.writeFaults_of_rom_lt _ (State.rom_lt_of_storesAt hhi))
    (State.writeFaults_of_rom_lt _ _ (State.rom_lt_of_storesAt hlo))
  obtain ⟨hreadHi, hreadLo⟩ := hbytes hmem hhi hlo (not_sameCell_push _)
  have hregs : t.regs = { s.regs with sp := s.regs.sp - 2 } := by rw [ht]; rfl
  refine ⟨t, hexec, ?_, ?_⟩
  · show { t.regs with sp := t.regs.sp + 2 } = s.regs
    rw [hregs, BitVec.sub_add_cancel]
  · rw [State.top16, hregs, sub_two_add_one, hreadHi, hreadLo, wordOf_hi_lo]

/-- Settles O20: the pair is on top of the stack after PUSH, and POP writes what is there. -/
theorem pushThenPop : Obligations.PushThenPop := by
  unfold Obligations.PushThenPop
  intro s p q hnone hmem hf hhi hlo
  obtain ⟨t, hpush, hback, htop⟩ := exec_push_of_storesAt p hnone hmem hhi hlo
  have hpop := exec_pop q t
  rw [htop] at hpop
  refine ⟨t, _, hpush, hpop, ?_⟩
  simp only [State.tick_regs, State.set16_regs, hback]
  refine ⟨Regs.sp_set16_pairAf _ _ _, Regs.get16_set16_same _ _ _, ?_⟩
  rintro rfl
  split
  · subst p
    exact (congrArg _ (Regs.get16_af_masked hf)).trans (s.regs.set16_get16 .af)
  · exact s.regs.set16_get16 _

/-! ### SP plus a displacement -/

/-- The low bits the rules mask are remainders. -/
theorem nibble_eq_mod (v : Byte) : nibble v = v.toNat % 16 := by
  rw [nibble, BitVec.toNat_and]
  exact Nat.and_two_pow_sub_one_eq_mod v.toNat 4

theorem spPlus_eq_rule (sp : Word) (e : Byte) : spPlus sp e = (sp + e.signExtend 16, ruleSpFlags sp e) := by
  have hnibble : (sp &&& 0x000F).toNat = sp.toNat % 16 :=
    (BitVec.toNat_and ..).trans (Nat.and_two_pow_sub_one_eq_mod sp.toNat 4)
  have hbyte : (sp &&& 0x00FF).toNat = sp.toNat % 256 :=
    (BitVec.toNat_and ..).trans (Nat.and_two_pow_sub_one_eq_mod sp.toNat 8)
  rw [ruleSpFlags, hnibble, hbyte, nibble_eq_mod]
  rfl

/-- Settles O21: both forms put `spPlus` into their register, then set F. -/
theorem spPlusDisplacement : Obligations.SpPlusDisplacement := by
  unfold Obligations.SpPlusDisplacement
  intro s e f
  have hinto : ∀ rr cost, spPlusInto rr e cost s =
      .next (((s.set16 rr (s.regs.sp + e.signExtend 16)).setFlags (ruleSpFlags s.regs.sp e)).tick cost) := by
    intro rr cost
    rw [spPlusInto, spPlus_eq_rule]
  exact ⟨⟨rfl, .of_advance (hinto .hl 12)⟩, rfl, .of_advance (hinto .sp 16)⟩

end Sys2Proof.Machine
end

section
/-! SUPPORT. 8-bit arithmetic and logic (spec/42_alu8.md R250 to R266): each computation of Flags.lean against its rule's own
formula, the shapes of Operands.lean that run them, and what DAA makes of packed decimals. O22 to O26. -/

namespace Sys2Proof.Machine

/-! ### The computations are the rules' formulas -/

theorem addBytes_eq (a v : Byte) (k : Nat) :
    addBytes a v k =
      { value := a + v + opByte k,
        flags := { z := a + v + opByte k == 0, n := false, h := decide (nibble a + nibble v + k > 0x0F),
                   c := decide (a.toNat + v.toNat + k > 0xFF) } } := by
  have hvalue : BitVec.ofNat 8 (a.toNat + v.toNat + k) = a + v + opByte k := by
    simp only [BitVec.ofNat_add, BitVec.ofNat_toNat, BitVec.setWidth_eq, opByte]
  simp only [addBytes, hvalue, nibble_eq_mod]

theorem subBytes_eq (a v : Byte) (k : Nat) :
    subBytes a v k =
      { value := a - v - opByte k,
        flags := { z := a - v - opByte k == 0, n := true, h := decide (nibble a < nibble v + k),
                   c := decide (a.toNat < v.toNat + k) } } := by
  have hvalue : BitVec.ofInt 8 ((a.toNat : Int) - v.toNat - k) = a - v - opByte k := by
    apply BitVec.eq_of_toNat_eq
    simp only [BitVec.toNat_ofInt, BitVec.toNat_sub, opByte, BitVec.toNat_ofNat]
    omega
  simp only [subBytes, hvalue, nibble_eq_mod]

theorem carryIn_eq_toNat (f : Flags) : carryIn f = f.c.toNat := by
  unfold carryIn
  cases f.c <;> rfl

/-- Without a carry the third summand is 0. -/
theorem alu_eq_rule (op : AluOp) (a v : Byte) (f : Flags) :
    alu op a v f = { value := (ruleAlu op a v f.c).1, flags := (ruleAlu op a v f.c).2 } := by
  have hadd : a + v + opByte 0 = a + v := BitVec.add_zero _
  have hsub : a - v - opByte 0 = a - v := BitVec.sub_zero _
  cases op with
  | add => simp only [alu, ruleAlu, addBytes_eq, hadd, Nat.add_zero]
  | adc => simp only [alu, ruleAlu, addBytes_eq, carryIn_eq_toNat]
  | sub => simp only [alu, ruleAlu, subBytes_eq, hsub, Nat.add_zero]
  | sbc => simp only [alu, ruleAlu, subBytes_eq, carryIn_eq_toNat]
  | cp => simp only [alu, ruleAlu, subBytes_eq, hsub, Nat.add_zero]
  | and | xor | or => rfl

theorem incByte_eq (v : Byte) (f : Flags) :
    incByte v f = { value := v + 1, flags := { z := v + 1 == 0, n := false, h := nibble v == 0x0F, c := f.c } } := by
  rw [nibble_eq_mod]
  rfl

theorem decByte_eq (v : Byte) (f : Flags) :
    decByte v f = { value := v - 1, flags := { z := v - 1 == 0, n := true, h := nibble v == 0x00, c := f.c } } := by
  rw [nibble_eq_mod]
  rfl

/-- The step of 0x60 leaves the low digit, which the rule tests after it and the model before. -/
theorem daaLow_of_add (a : Byte) {f : Flags} (hn : f.n = false) (high : Bool) :
    daaLow a f = (f.h || decide ((if high then (a.toNat : Int) + 0x60 else a.toNat) % 16 > 0x09)) := by
  have hdigit : (if high then (a.toNat : Int) + 0x60 else a.toNat) % 16 > 0x09 ↔ a.toNat % 16 > 0x09 := by
    split <;> omega
  simp only [daaLow, hn, hdigit]
  rfl

/-- The rule's two steps one after the other add, or subtract, the model's one adjustment. -/
theorem daaByte_eq_rule (a : Byte) (f : Flags) :
    daaByte a f = { value := (ruleDaa a f).1, flags := (ruleDaa a f).2 } := by
  cases hn : f.n with
  | false =>
    have hhigh : daaHigh a f = (f.c || decide ((a.toNat : Int) > 0x99)) := by
      simp [daaHigh, hn]
    have hlow := daaLow_of_add a hn (daaHigh a f)
    have hsum : (a.toNat : Int) + ((if daaHigh a f then 0x60 else 0) + if daaLow a f then 0x06 else 0) =
        if daaLow a f then (if daaHigh a f then (a.toNat : Int) + 0x60 else a.toNat) + 0x06
        else if daaHigh a f then (a.toNat : Int) + 0x60 else a.toNat := by
      split <;> split <;> omega
    simp only [daaByte, ruleDaa, hn, ← hhigh, ← hlow, ← hsum, if_true, Bool.false_eq_true, if_false]
  | true =>
    have hdiff : (a.toNat : Int) - ((if f.c then 0x60 else 0) + if f.h then 0x06 else 0) =
        if f.h then (if f.c then (a.toNat : Int) - 0x60 else a.toNat) - 0x06
        else if f.c then (a.toNat : Int) - 0x60 else a.toNat := by
      split <;> split <;> omega
    simp only [daaByte, daaHigh, daaLow, ruleDaa, hn, ← hdiff, if_true, Bool.true_eq_false, if_false]

/-! ### What the shapes do -/

theorem Completes.of_aluWith {i : Instr} {s : State} {op : AluOp} {v : Byte} {cost : Nat} (h : exec i s = aluWith op v cost s) :
    Completes i s
      { s.regs with a := (ruleAlu op s.regs.a v (s.regs.f.getLsbD 4)).1,
                    f := (ruleAlu op s.regs.a v (s.regs.f.getLsbD 4)).2.pack } cost := by
  rw [aluWith, alu_eq_rule] at h
  exact .of_advance h

theorem Completes.of_modifyReg {i : Instr} {s : State} {g : Byte → Flags → Result} {r : Reg8} {cost : Nat} {v : Byte}
    {f : Flags} (h : exec i s = modifyReg g r cost s) (hg : g (s.regs.get8 r) s.flags = { value := v, flags := f }) :
    Completes i s { s.regs.set8 r v with f := f.pack } cost := by
  rw [modifyReg, State.get8, hg] at h
  exact .of_advance h

theorem Completes.of_writeFlags {i : Instr} {s : State} {f : Flags} {cost : Nat} (h : exec i s = writeFlags f cost s) :
    Completes i s { s.regs with f := f.pack } cost :=
  .of_advance h

/-- The flags are written after the store, which leaves the registers. -/
theorem Stores.of_modifyMemHl {i : Instr} {s : State} {g : Byte → Flags → Result} {cost : Nat} {v : Byte} {f : Flags}
    (h : exec i s = modifyMemHl g cost s) (hg : g (s.read s.hl) s.flags = { value := v, flags := f }) :
    Stores i s s.hl v { s.regs with f := f.pack } cost := by
  rw [modifyMemHl, hg] at h
  refine .of_andThen h fun t ht => ?_
  rw [← ht]
  rfl

/-! ### The families with an operation or a register field -/

theorem encode_aluReg (op : AluOp) (r : Reg8) : encode (.aluReg op r) = [opByte (0x80 + 8 * aluCode op + regCode r)] := by
  cases op <;> cases r <;> rfl

theorem exec_aluReg (op : AluOp) (r : Reg8) (s : State) : exec (.aluReg op r) s = aluWith op (s.regs.get8 r) 4 s := by
  cases op <;> cases r <;> rfl

theorem encode_aluMemHl (op : AluOp) : encode (.aluMemHl op) = [opByte (0x86 + 8 * aluCode op)] := by
  cases op <;> rfl

theorem exec_aluMemHl (op : AluOp) (s : State) : exec (.aluMemHl op) s = aluWith op (s.read s.hl) 8 s := by
  cases op <;> rfl

theorem encode_aluN (op : AluOp) (n : Byte) : encode (.aluN op n) = [opByte (0xC6 + 8 * aluCode op), n] := by
  cases op <;> rfl

theorem exec_aluN (op : AluOp) (n : Byte) (s : State) : exec (.aluN op n) s = aluWith op n 8 s := by
  cases op <;> rfl

theorem encode_incReg (r : Reg8) : encode (.incReg r) = [opByte (0x04 + 8 * regCode r)] := by
  cases r <;> rfl

theorem exec_incReg (r : Reg8) (s : State) : exec (.incReg r) s = modifyReg incByte r 4 s := by
  cases r <;> rfl

theorem encode_decReg (r : Reg8) : encode (.decReg r) = [opByte (0x05 + 8 * regCode r)] := by
  cases r <;> rfl

theorem exec_decReg (r : Reg8) (s : State) : exec (.decReg r) s = modifyReg decByte r 4 s := by
  cases r <;> rfl

theorem exec_incMemHl (s : State) : exec .incMemHl s = modifyMemHl incByte 12 s := rfl

theorem exec_decMemHl (s : State) : exec .decMemHl s = modifyMemHl decByte 12 s := rfl

theorem exec_cpl (s : State) : exec .cpl s = modifyReg cplByte .a 4 s := rfl

theorem exec_daa (s : State) : exec .daa s = modifyReg daaByte .a 4 s := rfl

/-! ### The statements -/

/-- Settles O22: each form runs `aluWith` on its operand. -/
theorem aluOperations : Obligations.AluOperations := by
  unfold Obligations.AluOperations
  intro s op r n after
  exact ⟨⟨encode_aluReg op r, .of_aluWith (exec_aluReg op r s)⟩, ⟨encode_aluMemHl op, .of_aluWith (exec_aluMemHl op s)⟩,
    ⟨encode_aluN op n, .of_aluWith (exec_aluN op n s)⟩⟩

/-- Settles O23: each form changes one register and F, or F alone. -/
theorem registerSteps : Obligations.RegisterSteps := by
  unfold Obligations.RegisterSteps
  intro s r v z c
  exact ⟨⟨encode_incReg r, .of_modifyReg (exec_incReg r s) (incByte_eq v s.flags)⟩,
    ⟨encode_decReg r, .of_modifyReg (exec_decReg r s) (decByte_eq v s.flags)⟩,
    ⟨rfl, .of_modifyReg (exec_cpl s) rfl⟩, ⟨rfl, .of_writeFlags rfl⟩, ⟨rfl, .of_writeFlags rfl⟩⟩

/-- Settles O24: both forms run `modifyMemHl`. -/
theorem memorySteps : Obligations.MemorySteps := by
  unfold Obligations.MemorySteps
  intro s hl v c
  exact ⟨⟨rfl, .of_modifyMemHl (exec_incMemHl s) (incByte_eq v s.flags)⟩,
    ⟨rfl, .of_modifyMemHl (exec_decMemHl s) (decByte_eq v s.flags)⟩⟩

/-- Settles O25: DAA changes A and F as `daaByte` gives them. -/
theorem decimalAdjust : Obligations.DecimalAdjust := by
  unfold Obligations.DecimalAdjust
  intro s q
  exact ⟨rfl, .of_modifyReg (exec_daa s) (daaByte_eq_rule s.regs.a s.flags)⟩

/-! ### DAA on packed decimals -/

theorem toNat_bcd {n : Nat} (h : n < 100) : (bcd n).toNat = 16 * (n / 10) + n % 10 := by
  rw [bcd, BitVec.toNat_ofNat]
  omega

/-- The low digits' sum needs the adjustment exactly where it carries in decimal. -/
theorem daaLow_addBytes_bcd {x y : Nat} (hx : x < 100) (hy : y < 100) :
    daaLow (addBytes (bcd x) (bcd y) 0).value (addBytes (bcd x) (bcd y) 0).flags = decide (10 ≤ x % 10 + y % 10) := by
  simp only [daaLow, addBytes, toNat_bcd hx, toNat_bcd hy, BitVec.toNat_ofNat, Bool.false_eq_true, if_false, ← Bool.decide_or,
    decide_eq_decide]
  omega

/-- The whole sum needs it exactly where it is 100 or more: the tens and a carry from the low digits make ten tens. -/
theorem daaHigh_addBytes_bcd {x y : Nat} (hx : x < 100) (hy : y < 100) :
    daaHigh (addBytes (bcd x) (bcd y) 0).value (addBytes (bcd x) (bcd y) 0).flags = decide (100 ≤ x + y) := by
  have hbyte : ∀ sum : Nat, sum ≤ 306 → (sum > 0xFF ∨ sum % 2 ^ 8 > 0x99 ↔ sum > 0x99) := by omega
  have htens : x / 10 + y / 10 ≤ (x + y) / 10 := Nat.div_add_div_le_add_div
  simp only [daaHigh, addBytes, toNat_bcd hx, toNat_bcd hy, BitVec.toNat_ofNat, Bool.false_eq_true, if_false, ← Bool.decide_or,
    decide_eq_decide]
  rw [hbyte _ (by omega)]
  omega

theorem daaByte_addBytes_bcd_value {x y : Nat} (hx : x < 100) (hy : y < 100) :
    (daaByte (addBytes (bcd x) (bcd y) 0).value (addBytes (bcd x) (bcd y) 0).flags).value = bcd ((x + y) % 100) := by
  apply BitVec.eq_of_toNat_eq
  simp only [daaByte, daaLow_addBytes_bcd hx hy, daaHigh_addBytes_bcd hx hy, decide_eq_true_eq]
  simp only [addBytes, toNat_bcd hx, toNat_bcd hy, toNat_bcd (Nat.mod_lt (x + y) (by decide : 0 < 100)), BitVec.toNat_ofInt,
    BitVec.toNat_ofNat, Bool.false_eq_true, if_false]
  split <;> split <;> omega

/-- Packed decimals are ordered as the numbers they stand for, so SUB's borrows are the decimal ones. -/
theorem subBytes_bcd_flags {x y : Nat} (hx : x < 100) (hy : y < 100) :
    (subBytes (bcd x) (bcd y) 0).flags.n = true ∧
      (subBytes (bcd x) (bcd y) 0).flags.h = decide (x % 10 < y % 10) ∧
      (subBytes (bcd x) (bcd y) 0).flags.c = decide (x < y) := by
  simp only [subBytes, toNat_bcd hx, toNat_bcd hy, decide_eq_decide, true_and]
  omega

theorem daaByte_subBytes_bcd_value {x y : Nat} (hx : x < 100) (hy : y < 100) :
    (daaByte (subBytes (bcd x) (bcd y) 0).value (subBytes (bcd x) (bcd y) 0).flags).value = bcd ((100 + x - y) % 100) := by
  obtain ⟨hn, hh, hc⟩ := subBytes_bcd_flags hx hy
  apply BitVec.eq_of_toNat_eq
  simp only [daaByte, daaLow, daaHigh, hn, hh, hc, if_true, decide_eq_true_eq]
  simp only [subBytes, toNat_bcd hx, toNat_bcd hy, toNat_bcd (Nat.mod_lt (100 + x - y) (by decide : 0 < 100)),
    BitVec.toNat_ofInt]
  split <;> split <;> omega

/-- An immediate operation, then DAA: DAA reads the A and the flags that the operation left. -/
theorem exec_aluN_daa (op : AluOp) (n : Byte) (s : State) :
    ∃ t u, exec (.aluN op n) s = .next t ∧ exec .daa t = .next u ∧
      u.regs.a = (daaByte (alu op s.regs.a n s.flags).value (alu op s.regs.a n s.flags).flags).value ∧
      u.flags = (daaByte (alu op s.regs.a n s.flags).value (alu op s.regs.a n s.flags).flags).flags := by
  refine ⟨_, _, exec_aluN op n s, rfl, ?_, ?_⟩
  · exact congrArg (fun f => (daaByte _ f).value) (flagsOf_pack _)
  · exact (flagsOf_pack _).trans (congrArg (fun f => (daaByte _ f).flags) (flagsOf_pack _))

/-- Settles O26: DAA after the sum, and after the difference, of two packed decimals. -/
theorem decimalArithmetic : Obligations.DecimalArithmetic := by
  unfold Obligations.DecimalArithmetic
  intro s x y ha
  refine ⟨?_, ?_⟩
  · obtain ⟨t, u, hadd, hdaa, hvalue, hflags⟩ := exec_aluN_daa .add (bcd y.val) s
    rw [ha] at hvalue hflags
    exact ⟨t, u, hadd, hdaa, hvalue.trans (daaByte_addBytes_bcd_value x.isLt y.isLt),
      (congrArg Flags.c hflags).trans (daaHigh_addBytes_bcd x.isLt y.isLt)⟩
  · obtain ⟨t, u, hsub, hdaa, hvalue, hflags⟩ := exec_aluN_daa .sub (bcd y.val) s
    obtain ⟨-, -, hborrow⟩ := subBytes_bcd_flags x.isLt y.isLt
    rw [ha] at hvalue hflags
    exact ⟨t, u, hsub, hdaa, hvalue.trans (daaByte_subBytes_bcd_value x.isLt y.isLt), (congrArg Flags.c hflags).trans hborrow⟩

end Sys2Proof.Machine
end

section
/-! SUPPORT. 16-bit arithmetic on the pairs (spec/43_alu16.md R281 to R283): the sum and flags of ADD HL,rr against the rule's own
formula, and the families with a pair field. O27. -/

namespace Sys2Proof.Machine

/-! ### The computation is the rule's formula -/

theorem addWords_eq (hl v : Word) (f : Flags) :
    addWords hl v f =
      (hl + v, { z := f.z, n := false, h := decide ((hl &&& 0x0FFF).toNat + (v &&& 0x0FFF).toNat > 0x0FFF),
                 c := decide (hl.toNat + v.toNat > 0xFFFF) }) := by
  have hlow : ∀ w : Word, (w &&& 0x0FFF).toNat = w.toNat % 0x1000 := fun w =>
    (BitVec.toNat_and ..).trans (Nat.and_two_pow_sub_one_eq_mod w.toNat 12)
  rw [hlow, hlow]
  rfl

/-! ### What ADD HL,rr does -/

/-- F and the pair HL share no register, so the order of the two writes does not show. -/
theorem Completes.of_addHl {i : Instr} {s : State} {rr : Reg16} {cost : Nat} {v : Word} {f : Flags}
    (h : exec i s = addHl rr cost s) (hsum : addWords s.hl (s.regs.get16 rr) s.flags = (v, f)) :
    Completes i s ({ s.regs with f := f.pack }.set16 .hl v) cost := by
  rw [addHl, State.get16, hsum] at h
  exact .of_advance h

/-! ### The families with a pair field -/

theorem encode_addHlPair (p : PairSp) : encode (.addHlPair p) = [opByte (0x09 + 16 * pairSpCode p)] := by
  cases p <;> rfl

theorem exec_addHlPair (p : PairSp) (s : State) : exec (.addHlPair p) s = addHl (pairSpReg p) 8 s := by
  cases p <;> rfl

theorem encode_incPair (p : PairSp) : encode (.incPair p) = [opByte (0x03 + 16 * pairSpCode p)] := by
  cases p <;> rfl

theorem exec_incPair (p : PairSp) (s : State) :
    exec (.incPair p) s = loadPair (pairSpReg p) (s.regs.get16 (pairSpReg p) + 1) 8 s := by
  cases p <;> rfl

theorem encode_decPair (p : PairSp) : encode (.decPair p) = [opByte (0x0B + 16 * pairSpCode p)] := by
  cases p <;> rfl

theorem exec_decPair (p : PairSp) (s : State) :
    exec (.decPair p) s = loadPair (pairSpReg p) (s.regs.get16 (pairSpReg p) - 1) 8 s := by
  cases p <;> rfl

/-! ### The statement -/

/-- Settles O27: ADD HL,rr runs `addHl`, INC rr and DEC rr load the pair with its value moved by one. -/
theorem pairArithmetic : Obligations.PairArithmetic := by
  unfold Obligations.PairArithmetic
  intro s p hl v
  exact ⟨⟨encode_addHlPair p, .of_addHl (exec_addHlPair p s) (addWords_eq hl v s.flags)⟩,
    ⟨encode_incPair p, .of_loadPair (exec_incPair p s)⟩, ⟨encode_decPair p, .of_loadPair (exec_decPair p s)⟩⟩

end Sys2Proof.Machine
end

section
/-! SUPPORT. Rotates, shifts and bit operations (spec/44_rotate_bit.md R291 to R305): single bits as the model takes them and as the
rules do, the computations against the rules' own formulas, and the families with an operation, bit or register field. O28 and O29. -/

namespace Sys2Proof.Machine

/-! ### A bit taken by its index and by masking -/

theorem opByte_boolToNat (b : Bool) : opByte b.toNat = (BitVec.ofBool b).setWidth 8 := by
  cases b <;> rfl

theorem shiftRight_seven_eq_ofBool (v : Byte) : v >>> 7 = (BitVec.ofBool (v.getLsbD 7)).setWidth 8 := by
  apply BitVec.eq_of_getLsbD_eq
  intro i hi
  rcases i with _ | i
  · simp
  · have habove : v.getLsbD (7 + (i + 1)) = false := BitVec.getLsbD_of_ge v _ (by omega)
    simp [habove]

theorem and_one_eq_ofBool (v : Byte) : v &&& 1 = (BitVec.ofBool (v.getLsbD 0)).setWidth 8 :=
  BitVec.and_one_eq_setWidth_ofBool_getLsbD

theorem ofBool_setWidth_beq_one (b : Bool) : ((BitVec.ofBool b).setWidth 8 == 1) = b := by
  cases b <;> rfl

theorem ofBool_setWidth_beq_zero (b : Bool) : ((BitVec.ofBool b).setWidth 8 == 0) = !b := by
  cases b <;> rfl

theorem shiftRight_and_one_beq_zero (v : Byte) (n : Nat) : ((v >>> n) &&& 1 == 0) = !v.getLsbD n := by
  rw [and_one_eq_ofBool, ofBool_setWidth_beq_zero, BitVec.getLsbD_ushiftRight, Nat.add_zero]

/-- The high nibble that SWAP's rule masks off is what the shift drops. -/
theorem lowNibble_shiftLeft_four (v : Byte) : (v &&& 0x0F) <<< 4 = v <<< 4 := by
  apply BitVec.eq_of_toNat_eq
  simp only [BitVec.toNat_shiftLeft, Nat.shiftLeft_eq]
  have hnibble : (v &&& 0x0F).toNat = v.toNat % 16 := nibble_eq_mod v
  omega

/-! ### The computations are the rules' formulas -/

theorem shiftOut_eq_rule (op : ShiftOp) (v : Byte) (c : Bool) : shiftOut op v c = ruleShift op v c := by
  cases op with
  | rlc | sla => simp only [shiftOut, ruleShift, shiftRight_seven_eq_ofBool, ofBool_setWidth_beq_one]
  | rl => simp only [shiftOut, ruleShift, shiftRight_seven_eq_ofBool, ofBool_setWidth_beq_one, opByte_boolToNat]
  | rrc | sra | srl => simp only [shiftOut, ruleShift, and_one_eq_ofBool, ofBool_setWidth_beq_one]
  | rr => simp only [shiftOut, ruleShift, and_one_eq_ofBool, ofBool_setWidth_beq_one, opByte_boolToNat]
  | swap => simp only [shiftOut, ruleShift, lowNibble_shiftLeft_four]

theorem shiftByte_eq_rule (op : ShiftOp) (v : Byte) (f : Flags) :
    shiftByte op v f =
      { value := (ruleShift op v f.c).1,
        flags := { z := (ruleShift op v f.c).1 == 0, n := false, h := false, c := (ruleShift op v f.c).2 } } := by
  rw [shiftByte, shiftOut_eq_rule]

theorem rotateA_eq_rule (op : ShiftOp) (v : Byte) (f : Flags) :
    rotateA op v f =
      { value := (ruleShift op v f.c).1, flags := { z := false, n := false, h := false, c := (ruleShift op v f.c).2 } } := by
  rw [rotateA, shiftOut_eq_rule]

theorem bitFlags_eq_rule (b : Fin 8) (v : Byte) (f : Flags) :
    bitFlags b v f = { z := (v >>> b.val) &&& 1 == 0, n := false, h := true, c := f.c } := by
  rw [bitFlags, shiftRight_and_one_beq_zero]

/-! ### What the accumulator forms and BIT do -/

theorem Completes.of_rotateA {i : Instr} {s : State} {op : ShiftOp} {cost : Nat}
    (h : exec i s = modifyReg (rotateA op) .a cost s) :
    Completes i s
      { s.regs with a := (ruleShift op s.regs.a (s.regs.f.getLsbD 4)).1,
                    f := Flags.pack { z := false, n := false, h := false,
                                      c := (ruleShift op s.regs.a (s.regs.f.getLsbD 4)).2 } } cost :=
  .of_modifyReg h (rotateA_eq_rule op s.regs.a s.flags)

theorem Completes.of_bitFlags {i : Instr} {s : State} {b : Fin 8} {v : Byte} {cost : Nat}
    (h : exec i s = writeFlags (bitFlags b v s.flags) cost s) :
    Completes i s
      { s.regs with f := Flags.pack { z := (v >>> b.val) &&& 1 == 0, n := false, h := true, c := s.regs.f.getLsbD 4 } } cost := by
  rw [bitFlags_eq_rule] at h
  exact .of_writeFlags h

/-! ### The families with an operation, bit or register field -/

theorem encode_shiftReg (op : ShiftOp) (r : Reg8) :
    encode (.shiftReg op r) = [0xCB, opByte (8 * shiftCode op + regCode r)] := by
  cases op <;> cases r <;> rfl

theorem exec_shiftReg (op : ShiftOp) (r : Reg8) (s : State) : exec (.shiftReg op r) s = modifyReg (shiftByte op) r 8 s := by
  cases op <;> cases r <;> rfl

theorem encode_shiftMemHl (op : ShiftOp) : encode (.shiftMemHl op) = [0xCB, opByte (0x06 + 8 * shiftCode op)] := by
  cases op <;> rfl

theorem exec_shiftMemHl (op : ShiftOp) (s : State) : exec (.shiftMemHl op) s = modifyMemHl (shiftByte op) 16 s := by
  cases op <;> rfl

theorem encode_bitReg (b : Fin 8) (r : Reg8) : encode (.bitReg b r) = [0xCB, opByte (0x40 + 8 * b.val + regCode r)] := by
  fin_cases b <;> cases r <;> rfl

theorem exec_bitReg (b : Fin 8) (r : Reg8) (s : State) :
    exec (.bitReg b r) s = writeFlags (bitFlags b (s.regs.get8 r) s.flags) 8 s := by
  fin_cases b <;> cases r <;> rfl

theorem encode_bitMemHl (b : Fin 8) : encode (.bitMemHl b) = [0xCB, opByte (0x46 + 8 * b.val)] := by
  fin_cases b <;> rfl

theorem exec_bitMemHl (b : Fin 8) (s : State) : exec (.bitMemHl b) s = writeFlags (bitFlags b (s.read s.hl) s.flags) 12 s := by
  fin_cases b <;> rfl

theorem encode_resReg (b : Fin 8) (r : Reg8) : encode (.resReg b r) = [0xCB, opByte (0x80 + 8 * b.val + regCode r)] := by
  fin_cases b <;> cases r <;> rfl

theorem exec_resReg (b : Fin 8) (r : Reg8) (s : State) : exec (.resReg b r) s = loadReg r (resByte b (s.regs.get8 r)) 8 s := by
  fin_cases b <;> cases r <;> rfl

theorem encode_resMemHl (b : Fin 8) : encode (.resMemHl b) = [0xCB, opByte (0x86 + 8 * b.val)] := by
  fin_cases b <;> rfl

theorem exec_resMemHl (b : Fin 8) (s : State) : exec (.resMemHl b) s = storeByte s.hl (resByte b (s.read s.hl)) 16 s := by
  fin_cases b <;> rfl

theorem encode_setReg (b : Fin 8) (r : Reg8) : encode (.setReg b r) = [0xCB, opByte (0xC0 + 8 * b.val + regCode r)] := by
  fin_cases b <;> cases r <;> rfl

theorem exec_setReg (b : Fin 8) (r : Reg8) (s : State) : exec (.setReg b r) s = loadReg r (setByte b (s.regs.get8 r)) 8 s := by
  fin_cases b <;> cases r <;> rfl

theorem encode_setMemHl (b : Fin 8) : encode (.setMemHl b) = [0xCB, opByte (0xC6 + 8 * b.val)] := by
  fin_cases b <;> rfl

theorem exec_setMemHl (b : Fin 8) (s : State) : exec (.setMemHl b) s = storeByte s.hl (setByte b (s.read s.hl)) 16 s := by
  fin_cases b <;> rfl

/-! ### The statements -/

/-- Settles O28: the accumulator forms and the CB forms change their operand by `shiftOut`, which is the rules' formula. -/
theorem rotatesAndShifts : Obligations.RotatesAndShifts := by
  unfold Obligations.RotatesAndShifts
  intro s op r c accumulator flags q m
  exact ⟨⟨rfl, .of_rotateA (op := .rlc) rfl⟩, ⟨rfl, .of_rotateA (op := .rrc) rfl⟩, ⟨rfl, .of_rotateA (op := .rl) rfl⟩,
    ⟨rfl, .of_rotateA (op := .rr) rfl⟩,
    ⟨encode_shiftReg op r, .of_modifyReg (exec_shiftReg op r s) (shiftByte_eq_rule op (s.regs.get8 r) s.flags)⟩,
    ⟨encode_shiftMemHl op, .of_modifyMemHl (exec_shiftMemHl op s) (shiftByte_eq_rule op (s.read s.hl) s.flags)⟩⟩

/-- Settles O29: BIT writes F alone, RES and SET are a register load or a store of the changed byte. -/
theorem bitOperations : Obligations.BitOperations := by
  unfold Obligations.BitOperations
  intro s b r hl mask tested
  exact ⟨⟨encode_bitReg b r, .of_bitFlags (exec_bitReg b r s)⟩, ⟨encode_bitMemHl b, .of_bitFlags (exec_bitMemHl b s)⟩,
    ⟨encode_resReg b r, .of_loadReg (exec_resReg b r s)⟩, ⟨encode_resMemHl b, .of_storeByte (exec_resMemHl b s)⟩,
    ⟨encode_setReg b r, .of_loadReg (exec_setReg b r s)⟩, ⟨encode_setMemHl b, .of_storeByte (exec_setMemHl b s)⟩⟩

end Sys2Proof.Machine
end

section
/-! SUPPORT. Control transfers (spec/45_control.md R321 to R331): the condition as the model takes it and as the rules do, what each
shape of a jump, a call and a return does, and the families with a condition or a restart field. O30, O31 and O32. -/

namespace Sys2Proof.Machine

/-! ### What jumps and returns do -/

/-- The flags a condition is read from are the bits of F (R34, R155). -/
theorem State.holds_flags (s : State) (cc : Cond) : s.flags.holds cc = condOn cc s.regs.f := by
  cases cc <;> rfl

/-- A conditional transfer that sets the registers and the Clock when taken, and the Clock alone when not. -/
theorem Completes.of_conditional {i : Instr} {s : State} {cc : Cond} {g : Regs} {taken notTaken : Nat}
    (h : exec i s = if s.flags.holds cc then .next (s.advance g taken) else .next (s.tick notTaken)) :
    Completes i s (if condOn cc s.regs.f then g else s.regs) (if condOn cc s.regs.f then taken else notTaken) := by
  rw [s.holds_flags cc] at h
  cases hc : condOn cc s.regs.f with
  | true => exact .of_advance (h.trans (if_pos hc))
  | false => exact .of_advance (h.trans (if_neg (Bool.eq_false_iff.1 hc)))

theorem Completes.of_jumpTo {i : Instr} {s : State} {target : Word} {cost : Nat} (h : exec i s = jumpTo target cost s) :
    Completes i s { s.regs with pc := target } cost :=
  .of_advance h

theorem Completes.of_jumpIf {i : Instr} {s : State} {cc : Cond} {target : Word} {taken notTaken : Nat}
    (h : exec i s = jumpIf cc target taken notTaken s) :
    Completes i s (if condOn cc s.regs.f then { s.regs with pc := target } else s.regs)
      (if condOn cc s.regs.f then taken else notTaken) :=
  .of_conditional h

/-- RET leaves IME (R328). -/
theorem State.returnFrom_false (s : State) : s.returnFrom false = s.dropTop.setPc s.top16 := by
  simp only [State.returnFrom, Bool.or_false]

/-- RETI sets IME, whatever it was (R330). -/
theorem State.returnFrom_true (s : State) : s.returnFrom true = { s.dropTop.setPc s.top16 with ime := true } := by
  simp only [State.returnFrom, Bool.or_true]

/-- A return that leaves IME reaches the registers and the Clock only. -/
theorem returnWith_false (s : State) (cost : Nat) :
    returnWith false cost s = .next (s.advance (s.dropTop.setPc s.top16).regs cost) := by
  rw [returnWith, State.returnFrom_false]
  rfl

theorem returnWith_true (s : State) (cost : Nat) :
    returnWith true cost s = .next { s.advance (s.dropTop.setPc s.top16).regs cost with ime := true } := by
  rw [returnWith, State.returnFrom_true]
  rfl

theorem Completes.of_returnIf {i : Instr} {s : State} {cc : Cond} {taken notTaken : Nat}
    (h : exec i s = returnIf cc taken notTaken s) :
    Completes i s (if condOn cc s.regs.f then (s.dropTop.setPc s.top16).regs else s.regs)
      (if condOn cc s.regs.f then taken else notTaken) := by
  rw [returnIf, returnWith_false] at h
  exact .of_conditional h

/-! ### What calls do -/

theorem Pushes.of_callTo {i : Instr} {s : State} {target : Word} {cost : Nat} (h : exec i s = callTo target cost s) :
    Pushes i s s.regs.pc target cost := by
  refine .of_push16 h fun t ht => ?_
  show t.advance { t.regs with pc := target } cost = _
  rw [ht]

theorem callIf_of_condOn {s : State} {cc : Cond} (target : Word) (taken notTaken : Nat) (hc : condOn cc s.regs.f = true) :
    callIf cc target taken notTaken s = callTo target taken s :=
  if_pos ((s.holds_flags cc).trans hc)

theorem callIf_of_not_condOn {s : State} {cc : Cond} (target : Word) (taken notTaken : Nat)
    (hc : condOn cc s.regs.f = false) : callIf cc target taken notTaken s = .next (s.tick notTaken) :=
  if_neg (Bool.eq_false_iff.1 ((s.holds_flags cc).trans hc))

/-! ### The families with a condition or a restart field -/

theorem encode_jpCond (cc : Cond) (nn : Word) :
    encode (.jpCond cc nn) = [opByte (0xC2 + 8 * condCode cc), loByte nn, hiByte nn] := by
  cases cc <;> rfl

theorem exec_jpCond (cc : Cond) (nn : Word) (s : State) : exec (.jpCond cc nn) s = jumpIf cc nn 16 12 s := by
  cases cc <;> rfl

theorem encode_jrCond (cc : Cond) (e : Byte) : encode (.jrCond cc e) = [opByte (0x20 + 8 * condCode cc), e] := by
  cases cc <;> rfl

theorem exec_jrCond (cc : Cond) (e : Byte) (s : State) : exec (.jrCond cc e) s = jumpIf cc (s.relative e) 12 8 s := by
  cases cc <;> rfl

theorem encode_callCond (cc : Cond) (nn : Word) :
    encode (.callCond cc nn) = [opByte (0xC4 + 8 * condCode cc), loByte nn, hiByte nn] := by
  cases cc <;> rfl

theorem exec_callCond (cc : Cond) (nn : Word) (s : State) : exec (.callCond cc nn) s = callIf cc nn 24 12 s := by
  cases cc <;> rfl

theorem encode_retCond (cc : Cond) : encode (.retCond cc) = [opByte (0xC0 + 8 * condCode cc)] := by
  cases cc <;> rfl

theorem exec_retCond (cc : Cond) (s : State) : exec (.retCond cc) s = returnIf cc 20 8 s := by
  cases cc <;> rfl

theorem encode_rst (y : Fin 8) : encode (.rst y) = [opByte (0xC7 + 8 * y.val)] := by
  fin_cases y <;> rfl

theorem exec_rst (y : Fin 8) (s : State) : exec (.rst y) s = callTo (BitVec.ofNat 16 (8 * y.val)) 16 s := by
  fin_cases y <;> rfl

/-! ### The statements -/

/-- Settles O31: a call taken and a restart are `push16` and then pc set; a call not taken is a tick. -/
theorem calls : Obligations.Calls := by
  unfold Obligations.Calls
  intro s cc y nn
  refine ⟨⟨rfl, .of_callTo rfl⟩, ⟨encode_callCond cc nn, fun htaken => ?_, fun hnot => ?_⟩, encode_rst y,
    .of_callTo (exec_rst y s)⟩
  · exact .of_callTo ((exec_callCond cc nn s).trans (callIf_of_condOn nn 24 12 htaken))
  · exact .of_advance ((exec_callCond cc nn s).trans (callIf_of_not_condOn nn 24 12 hnot))

/-- Settles O30: each form runs `jumpTo` or `jumpIf`. -/
theorem jumps : Obligations.Jumps := by
  unfold Obligations.Jumps
  intro s cc e nn taken target
  exact ⟨⟨rfl, .of_jumpTo rfl⟩, ⟨rfl, .of_jumpTo rfl⟩, ⟨rfl, .of_jumpTo (target := target) rfl⟩,
    ⟨encode_jpCond cc nn, .of_jumpIf (exec_jpCond cc nn s)⟩, ⟨encode_jrCond cc e, .of_jumpIf (exec_jrCond cc e s)⟩⟩

/-- Settles O32: RET and RET cc run a return that leaves IME; RETI runs the same with IME set. -/
theorem returns : Obligations.Returns := by
  unfold Obligations.Returns
  intro s cc popped taken
  exact ⟨⟨rfl, .of_advance (returnWith_false s 16)⟩, ⟨encode_retCond cc, .of_returnIf (exec_retCond cc s)⟩,
    rfl, returnWith_true s 16, fun _ => rfl⟩

end Sys2Proof.Machine
end

section
/-! SUPPORT. NOP, HALT, EI, DI, STOP and the illegal opcodes (spec/46_system.md R350 to R359): how an executed step begins
and ends, the countdown of EI, and the CPU that waits. O5, O7, O9, O11, O12 and O13. -/

namespace Sys2Proof.Machine

/-! ### The end of an instruction -/

/-- The countdown of R350 in one formula: it stops at 0, and IME is set on the way from 1 to 0. -/
theorem State.countdown_eq (s : State) : s.countdown = s.setIme (s.ime || s.imeDelay == 1) (s.imeDelay - 1) := by
  unfold State.countdown
  split
  · rename_i h0
    have hsame : s = s.setIme s.ime s.imeDelay := rfl
    rw [h0] at hsame ⊢
    simpa using hsame
  · split
    · rename_i h1
      simp [h1]
    · rename_i h1
      rw [beq_eq_false_iff_ne.2 h1, Bool.or_false]

theorem State.endInstr_of_running {t : State} (h : t.stopped = false) (a : Word) :
    t.endInstr a = (t.setIme (t.ime || t.imeDelay == 1) (t.imeDelay - 1)).catchUp := by
  rw [← State.countdown_eq]
  exact if_neg (Bool.eq_false_iff.1 h)

theorem State.endInstr_of_stopped {t : State} (h : t.stopped = true) (a : Word) : t.endInstr a = t.recordStop a :=
  if_pos h

/-- Recording the address of a STOP changes the refusal mark at most, and removes none. -/
theorem State.recordStop_eq (t : State) (a : Word) :
    t.recordStop a = { t with refused := (t.recordStop a).refused } ∧ (t.recordStop a).stopped = t.stopped := by
  unfold State.recordStop
  split
  · rename_i r hr
    exact ⟨rfl, by simp [State.stopped, hr]⟩
  · exact ⟨rfl, rfl⟩

/-! ### A step that executes -/

/-- The state an awake CPU runs the instruction `i` on: pc past what was fetched, the halt bug and the halted state left. -/
def State.begun (s : State) (i : Instr) : State :=
  { s.fetched i with halted := false }

@[simp] theorem State.begun_cycles (s : State) (i : Instr) : (s.begun i).cycles = s.cycles := rfl
@[simp] theorem State.begun_ime (s : State) (i : Instr) : (s.begun i).ime = s.ime := rfl
@[simp] theorem State.begun_imeDelay (s : State) (i : Instr) : (s.begun i).imeDelay = s.imeDelay := rfl

theorem State.begun_stopped {s : State} (h : s.NoFault) (i : Instr) : (s.begun i).stopped = false :=
  State.stopped_eq_false h.1 h.2

/-- With the halt bug disarmed an instruction without operand bytes leaves pc after its one byte. -/
theorem State.begun_regs_of_no_operands {s : State} (h : s.haltBug = false) {i : Instr} (hi : fetchedOperands i = 0) :
    (s.begun i).regs = { s.regs with pc := s.regs.pc + 1 } := by
  rw [State.begun, State.fetched_of_not_haltBug h, hi]
  rfl

theorem step_of_exec {s u : State} {i : Instr} (hs : s.Fetches) (hi : s.fetchInstr = i) (hu : exec i (s.begun i) = .next u) :
    step s = .next (u.endInstr s.regs.pc) := by
  have hstep := step_of_fetches hs
  rw [hi] at hstep
  rw [hstep, ← State.begun, hu]

theorem State.operandPc_of_haltBug {s : State} (h : s.haltBug = true) : s.operandPc = s.regs.pc :=
  if_pos h

/-- Settles O5: with the bug armed the operands are fetched from pc on, so that pc moves by their number alone. -/
theorem haltBugFetch : Obligations.HaltBugFetch := by
  unfold Obligations.HaltBugFetch
  intro s i rest hs hbug hdecode
  have hpc : s.operandPc = s.regs.pc := State.operandPc_of_haltBug hbug
  have hinstr : s.fetchInstr = i := by
    apply State.fetchInstr_of_decode (rest := rest)
    rw [hpc]
    exact hdecode
  have hstep := step_of_fetches hs
  rw [hinstr, State.fetched, hpc] at hstep
  exact hstep

/-! ### A CPU that waits, and one that wakes -/

theorem step_of_waits {s : State} (h : s.NoFault) (hw : s.waits = true) : step s = .next (s.tick s.waitCost).catchUp := by
  obtain ⟨hfault, hrefusal⟩ := h
  simp [step, hfault, hrefusal, hw]

theorem step_of_awake {s : State} (h : s.NoFault) (hw : s.waits = false) : step s = stepAwake s.wake := by
  obtain ⟨hfault, hrefusal⟩ := h
  simp [step, hfault, hrefusal, hw]

theorem State.waits_eq_false_of_pending {s : State} (hl : s.locked = false) (hp : s.pending ≠ 0) : s.waits = false := by
  rw [State.waits, hl, beq_eq_false_iff_ne.2 hp, Bool.and_false, Bool.false_or]

/-- Settles O7: nothing pending, the step waits; otherwise it is the awake step, which dispatches with IME set, and with IME
clear executes as if the CPU had not halted. -/
theorem haltedStep : Obligations.HaltedStep := by
  unfold Obligations.HaltedStep
  intro s hs hlock hhalt
  refine ⟨fun hnone => ?_, fun hsome hime => ?_, fun hsome hime => ?_⟩
  · have hwaits : s.waits = true := by simp [State.waits, hhalt, hnone]
    have hcost : s.waitCost = 1 := by simp [State.waitCost, hlock]
    rw [step_of_waits hs hwaits, hcost]
  · have hwaits : s.waits = false := State.waits_eq_false_of_pending hlock hsome
    have hdispatch : s.wake.dispatches = true := by
      show (s.ime && s.pending != 0) = true
      rw [hime, Bool.true_and]
      exact bne_iff_ne.2 hsome
    rw [step_of_awake hs hwaits, stepAwake, if_pos hdispatch]
    rfl
  · have hwaits : s.waits = false := State.waits_eq_false_of_pending hlock hsome
    have hwoken : s.wake.waits = false := by simp [State.waits, hlock]
    rw [step_of_awake hs hwaits]
    exact (step_of_awake (s := s.wake) hs hwoken).symm

/-! ### The illegal opcodes -/

theorem encode_illegal (k : Fin 11) :
    encode (.illegal k) =
      [opByte ([0xD3, 0xDB, 0xDD, 0xE3, 0xE4, 0xEB, 0xEC, 0xED, 0xF4, 0xFC, 0xFD].getD k.val 0)] := by
  fin_cases k <;> rfl

theorem exec_illegal (k : Fin 11) (s : State) : exec (.illegal k) s = .next (s.lock.tick 4) := by
  fin_cases k <;> rfl

theorem fetchedOperands_illegal (k : Fin 11) : fetchedOperands (.illegal k) = 0 := by
  fin_cases k <;> rfl

theorem step_of_locked {s : State} (h : s.NoFault) (hl : s.locked = true) : step s = .next (s.tick 4).catchUp := by
  have hwaits : s.waits = true := by simp [State.waits, hl]
  have hcost : s.waitCost = 4 := by simp [State.waitCost, hl]
  rw [step_of_waits h hwaits, hcost]

/-- `t` is a locked machine that differs from `s` in its devices and, by `n` T-cycles, its Clock (R358). -/
structure State.LockedAfter (s : State) (n : Nat) (t : State) : Prop where
  locked : t.locked = true
  regs : t.regs = s.regs
  ime : t.ime = s.ime
  imeDelay : t.imeDelay = s.imeDelay
  halted : t.halted = s.halted
  haltBug : t.haltBug = s.haltBug
  cycles : t.cycles = s.cycles + BitVec.ofNat 64 n
  noFault : t.NoFault

/-- A locked CPU stays locked for any number of steps, each of 4 T-cycles. -/
theorem run_of_locked (n : Nat) {s : State} (h : s.NoFault) (hl : s.locked = true) :
    ∃ t, Host.Core.run Sys2Proof.core n s = .next t ∧ s.LockedAfter (4 * n) t := by
  induction n generalizing s with
  | zero => exact ⟨s, rfl, hl, rfl, rfl, rfl, rfl, rfl, by simp, h⟩
  | succ n ih =>
    obtain ⟨t, hrun, ht⟩ := ih (s := (s.tick 4).catchUp) (by simpa [State.NoFault] using h) (by simpa using hl)
    obtain ⟨hlocked, hregs, hime, hdelay, hhalted, hbug, hcycles, hfault⟩ := ht
    refine ⟨t, (run_succ n (step_of_locked h hl)).trans hrun, hlocked, by simpa using hregs, by simpa using hime,
      by simpa using hdelay, by simpa using hhalted, by simpa using hbug, ?_, hfault⟩
    rw [hcycles, State.catchUp_cycles, State.tick_cycles, BitVec.add_assoc, BitVec.ofNat_add_ofNat, Nat.mul_succ, Nat.add_comm 4]

/-- Settles O9: an illegal opcode locks, by cases on the eleven, and a locked machine waits 4 T-cycles at every step. -/
theorem illegalLocks : Obligations.IllegalLocks := by
  unfold Obligations.IllegalLocks
  refine ⟨fun k s => ⟨encode_illegal k, exec_illegal k s, fun _ => rfl, fun hs hbug hinstr => ?_⟩, fun n s hs hl => ?_⟩
  · have hrunning : ((s.begun (.illegal k)).lock.tick 4).stopped = false := State.begun_stopped hs.1 (.illegal k)
    refine ⟨_, step_of_exec hs hinstr (exec_illegal k _), ?_⟩
    rw [State.endInstr_of_running hrunning]
    refine ⟨by simp, ?_, by simp⟩
    simpa using State.begun_regs_of_no_operands hbug (fetchedOperands_illegal k)
  · obtain ⟨t, hrun, hlocked, hregs, hime, hdelay, hhalted, hbug, hcycles, hfault⟩ := run_of_locked n hs hl
    exact ⟨step_of_locked hs hl, t, hrun, hlocked, hregs, hime, hdelay, hhalted, hbug, hcycles, hfault⟩

/-! ### NOP, DI and HALT -/

/-- HALT in the words of R357: the halt bug with IME 0 and an enabled request pending, else the halted state. -/
theorem State.halt_eq (s : State) :
    s.halt =
      if s.ime = false ∧ s.ie.setWidth 5 &&& s.iflag ≠ 0 then { s with haltBug := true }
      else { s with halted := true } := by
  unfold State.halt
  refine if_congr ?_ rfl rfl
  rw [Bool.and_eq_true, Bool.not_eq_true', bne_iff_ne]
  rfl

/-- Settles O11: none of the three reaches memory, and HALT takes one of the two branches of R357. -/
theorem systemInstructions : Obligations.SystemInstructions := by
  unfold Obligations.SystemInstructions
  intro s afterDi afterHalt
  have hhalt : exec .halt s = .next afterHalt := by
    show Host.Outcome.next (s.halt.tick 4) = _
    rw [s.halt_eq, apply_ite fun t : State => t.tick 4]
    rfl
  have hread : ∀ a, afterHalt.read a = s.read a := fun a =>
    ite_elim (P := fun t : State => t.read a = s.read a) (fun _ => rfl) fun _ => rfl
  exact ⟨⟨rfl, .of_advance rfl⟩, ⟨rfl, rfl, fun _ => rfl⟩, rfl, hhalt, hread⟩

/-! ### STOP -/

/-- Settles O13: STOP's mark takes the place of the end of the step but for the address recorded with it. -/
theorem stopIsRefused : Obligations.StopIsRefused := by
  unfold Obligations.StopIsRefused
  refine ⟨fun s => ⟨rfl, rfl⟩, fun s hs hbug hinstr => ?_⟩
  have hfault : s.faulted = none := hs.1.1
  refine ⟨_, step_of_exec hs hinstr rfl, ?_⟩
  rw [State.endInstr_of_stopped (State.refuse_stopped _ _)]
  refine ⟨rfl, State.begun_regs_of_no_operands hbug rfl, rfl, fun _ => rfl, ?_⟩
  exact (markedTakesNoStep _).2 _ hfault rfl

/-! ### EI -/

@[simp] theorem State.push16_imeDelay (s : State) (v : Word) : (s.push16 v).imeDelay = s.imeDelay :=
  State.andThen_closed (P := fun t => t.imeDelay = s.imeDelay) (by simp) fun _ => by simp

@[simp] theorem State.write16_imeDelay (s : State) (a v : Word) : (s.write16 a v).imeDelay = s.imeDelay :=
  State.andThen_closed (P := fun t => t.imeDelay = s.imeDelay) (by simp) fun _ => by simp

/-- `t` leaves a pending EI as it is in `s`. -/
def State.KeepsImeDelay (s t : State) : Prop :=
  t.imeDelay = s.imeDelay

theorem next_keepsImeDelay_andThen {s u : State} {k : State → State} (hu : u.imeDelay = s.imeDelay)
    (hk : (k u).imeDelay = u.imeDelay) : Next s.KeepsImeDelay (.next (u.andThen k)) :=
  ⟨_, rfl, State.andThen_closed hu fun _ => hk.trans hu⟩

theorem callTo_keepsImeDelay (target : Word) (cost : Nat) (s : State) : Next s.KeepsImeDelay (callTo target cost s) :=
  next_keepsImeDelay_andThen (s.push16_imeDelay _) rfl

theorem jumpIf_keepsImeDelay (cc : Cond) (target : Word) (taken notTaken : Nat) (s : State) :
    Next s.KeepsImeDelay (jumpIf cc target taken notTaken s) :=
  ite_elim (fun _ => ⟨_, rfl, rfl⟩) fun _ => ⟨_, rfl, rfl⟩

theorem callIf_keepsImeDelay (cc : Cond) (target : Word) (taken notTaken : Nat) (s : State) :
    Next s.KeepsImeDelay (callIf cc target taken notTaken s) :=
  ite_elim (fun _ => callTo_keepsImeDelay target taken s) fun _ => ⟨_, rfl, rfl⟩

theorem returnIf_keepsImeDelay (cc : Cond) (taken notTaken : Nat) (s : State) :
    Next s.KeepsImeDelay (returnIf cc taken notTaken s) :=
  ite_elim (fun _ => ⟨_, rfl, rfl⟩) fun _ => ⟨_, rfl, rfl⟩

theorem State.halt_imeDelay (s : State) : s.halt.imeDelay = s.imeDelay :=
  ite_elim (P := fun t : State => t.imeDelay = s.imeDelay) (fun _ => rfl) fun _ => rfl

/-- Only EI and DI touch a pending EI: the instructions with a bus write leave it by the frame of the write, the conditional
ones in both cases, and the rest reach registers only (R355, R356). -/
theorem exec_keepsImeDelay {i : Instr} (hei : i ≠ .ei) (hdi : i ≠ .di) (s : State) : Next s.KeepsImeDelay (exec i s) := by
  cases i with
  | ei => exact absurd rfl hei
  | di => exact absurd rfl hdi
  | halt => exact ⟨_, rfl, s.halt_imeDelay⟩
  | ldMemBcA | ldMemDeA | ldMemHlN | ldMemHlB | ldMemHlC | ldMemHlD | ldMemHlE | ldMemHlH | ldMemHlL | ldMemHlA | ldhMemNA
  | ldhMemCA | ldMemNnA | ldMemHlIncA | ldMemHlDecA | incMemHl | decMemHl
  | rlcMemHl | rrcMemHl | rlMemHl | rrMemHl | slaMemHl | sraMemHl | swapMemHl | srlMemHl
  | res0MemHl | res1MemHl | res2MemHl | res3MemHl | res4MemHl | res5MemHl | res6MemHl | res7MemHl
  | set0MemHl | set1MemHl | set2MemHl | set3MemHl | set4MemHl | set5MemHl | set6MemHl | set7MemHl =>
    exact next_keepsImeDelay_andThen (s.write_imeDelay _ _) rfl
  | ldMemNnSp => exact next_keepsImeDelay_andThen (s.write16_imeDelay _ _) rfl
  | pushBc | pushDe | pushHl | pushAf => exact next_keepsImeDelay_andThen (s.push16_imeDelay _) rfl
  | callNn | rst00 | rst08 | rst10 | rst18 | rst20 | rst28 | rst30 | rst38 => exact callTo_keepsImeDelay _ _ s
  | jrNz | jrZ | jrNc | jrC | jpNzNn | jpZNn | jpNcNn | jpCNn => exact jumpIf_keepsImeDelay _ _ _ _ s
  | callNzNn | callZNn | callNcNn | callCNn => exact callIf_keepsImeDelay _ _ _ _ s
  | retNz | retZ | retNc | retC => exact returnIf_keepsImeDelay _ _ _ s
  | _ => exact ⟨_, rfl, rfl⟩

/-- Settles O12: EI and DI run to the end of their step; any other instruction hands the pending EI to the countdown, which
sets IME unless the instruction stopped; the last clause is what an instruction's end does. -/
theorem eiTakesEffectAfterOneInstruction : Obligations.EiTakesEffectAfterOneInstruction := by
  unfold Obligations.EiTakesEffectAfterOneInstruction
  refine ⟨fun s => ⟨rfl, rfl, fun _ => rfl⟩, fun s hs _ hinstr => ?_, fun s t hs hdelay hei hdi hst hgo => ?_,
    fun s hs hinstr => ?_, fun t a => ⟨fun hgo => ?_, fun hstop => ?_⟩⟩
  · have hrunning : (((s.begun .ei).setIme (s.begun .ei).ime 2).tick 4).stopped = false := State.begun_stopped hs.1 .ei
    refine ⟨_, step_of_exec hs hinstr rfl, ?_⟩
    rw [State.endInstr_of_running hrunning]
    simp
  · obtain ⟨u, hu, hkeeps⟩ := exec_keepsImeDelay hei hdi (s.begun s.fetchInstr)
    have hone : u.imeDelay = 1 := hkeeps.trans hdelay
    obtain ⟨-, hrecord⟩ := u.recordStop_eq s.regs.pc
    rw [step_of_exec hs rfl hu] at hst
    cases hst
    cases hstopped : u.stopped with
    | true =>
      rw [State.endInstr_of_stopped hstopped, hrecord, hstopped] at hgo
      cases hgo
    | false =>
      rw [State.endInstr_of_running hstopped]
      simp [hone]
  · have hrunning : (((s.begun .di).setIme false 0).tick 4).stopped = false := State.begun_stopped hs.1 .di
    refine ⟨_, step_of_exec hs hinstr rfl, ?_⟩
    rw [State.endInstr_of_running hrunning]
    simp
  · rw [State.endInstr_of_running hgo]
    simpa [State.stopped] using hgo
  · obtain ⟨heq, hmark⟩ := t.recordStop_eq a
    rw [State.endInstr_of_stopped hstop]
    refine ⟨?_, ?_, ?_, ?_, ?_, ?_, ?_, ?_, hmark.trans hstop⟩
    all_goals rw [heq]

end Sys2Proof.Machine
end

section
/-! SUPPORT. The devices' registers from the bus: IF and IE (spec/60_exceptions.md R402, R403), the Timer's (spec/61_timer.md R453
to R458) and the PPU's (spec/62_ppu.md R505 to R518), the LCD switch (R532, R533), and the PPU's requests (R524, R527, R534).
O40, O43, O44 and O47. -/

namespace Sys2Proof.Machine

/-! ### The bus with no DMA -/

theorem State.read_of_idle {s : State} (h : s.ppu.dmaActive = false) (a : Word) : s.read a = s.route a.toNat :=
  State.read_of_open (State.lockedOut_of_idle h _)

theorem State.write_of_idle {s : State} (h : s.ppu.dmaActive = false) (a : Word) (v : Byte) :
    s.write a v = s.store a.toNat v :=
  State.write_of_open (State.lockedOut_of_idle h _) v

/-! ### IF, IE and the Timer's registers -/

/-- IF as read: the five stored bits under three set ones (R402). -/
theorem iflag_read_eq (r : Irq) : (0b111 : BitVec 3) ++ r = 0xE0 ||| r.setWidth 8 := by
  revert r
  decide

/-- Settles O40: with no DMA each access reaches its register, and only IF is read through a formula of its own. -/
theorem interruptAndTimerRegisters : Obligations.InterruptAndTimerRegisters := by
  unfold Obligations.InterruptAndTimerRegisters
  intro s v hdma
  have hread := State.read_of_idle hdma
  have hwrite := fun a => State.write_of_idle hdma a v
  exact ⟨hread _, hread _, hread _, hread _, hwrite _, hwrite _, hwrite _, hwrite _,
    (hread _).trans (iflag_read_eq s.iflag), hwrite _, hread _, hwrite _⟩

/-! ### The PPU's registers -/

/-- STAT as read, its fields shifted into place (R506). -/
theorem stat_fields_eq (sel : BitVec 4) (c : Bool) (m : BitVec 2) :
    (1 : BitVec 1) ++ sel ++ BitVec.ofBool c ++ m =
      (0x80 : Byte) ||| (sel.setWidth 8 <<< 3) ||| ((BitVec.ofBool c).setWidth 8 <<< 2) ||| m.setWidth 8 := by
  revert sel c m
  decide

/-- A register write that requests nothing reaches the PPU only. -/
theorem State.writePpuReg_of_silent {s : State} {a : Nat} {v : Byte} {q : Ppu} (h : s.ppu.writeReg a v = (q, 0)) :
    s.writePpuReg a v = { s with ppu := q } := by
  simp [State.writePpuReg, State.request, h]

/-- Settles O43: STAT alone is read through its fields, and no write but LCDC's raises a request. -/
theorem ppuRegisters : Obligations.PpuRegisters := by
  unfold Obligations.PpuRegisters
  intro s v hdma
  have hread := State.read_of_idle hdma
  have hwrite : ∀ (a : Word) (q : Ppu), s.store a.toNat v = s.writePpuReg a.toNat v →
      s.ppu.writeReg a.toNat v = (q, 0) → s.write a v = { s with ppu := q } :=
    fun a q hstore hreg => ((State.write_of_idle hdma a v).trans hstore).trans (State.writePpuReg_of_silent hreg)
  exact ⟨⟨hread _, hread _, hread _, hread _, hread _, hread _, hread _, hread _, hread _, hread _, hread _,
      (hread _).trans (stat_fields_eq _ _ _)⟩,
    hwrite _ _ rfl rfl, hwrite _ _ rfl rfl, hwrite _ _ rfl rfl, hwrite _ _ rfl rfl, hwrite _ _ rfl rfl, hwrite _ _ rfl rfl,
    hwrite _ _ rfl rfl, hwrite _ _ rfl rfl, hwrite _ _ rfl rfl, hwrite _ _ rfl rfl⟩

/-! ### The LCD switch -/

/-- LY set by the PPU requests STAT on equality, with STAT[6] (R524). -/
theorem Ppu.setLy_snd (p : Ppu) (v : Byte) :
    (p.setLy v).2 = if v = p.lyc ∧ p.statSel.getLsbD 3 = true then irqBit .stat else 0 := by
  unfold Ppu.setLy Ppu.compareLyc
  split
  · rename_i heq
    exact if_congr (iff_and_self.2 fun _ => heq) rfl rfl
  · rename_i hne
    exact (if_neg fun h => hne h.1).symm

theorem Ppu.writeLcdc_of_same {p : Ppu} {v : Byte} (h : p.lcdc.getLsbD 7 = v.getLsbD 7) :
    p.writeLcdc v = ({ p with lcdc := v }, 0) := by
  unfold Ppu.writeLcdc
  rw [h]
  cases v.getLsbD 7 <;> rfl

theorem Ppu.writeLcdc_of_on {p : Ppu} {v : Byte} (hwas : p.lcdc.getLsbD 7 = false) (hnow : v.getLsbD 7 = true) :
    p.writeLcdc v = (Ppu.lcdEnable { p with lcdc := v }, 0) := by
  unfold Ppu.writeLcdc
  rw [hwas, hnow]
  rfl

theorem Ppu.writeLcdc_of_off {p : Ppu} {v : Byte} (hwas : p.lcdc.getLsbD 7 = true) (hnow : v.getLsbD 7 = false) :
    p.writeLcdc v = Ppu.lcdDisable { p with lcdc := v } := by
  unfold Ppu.writeLcdc
  rw [hwas, hnow]
  rfl

/-- Settles O44: the write keeps LCDC[7], sets it, or clears it, where LY becomes 0 with its compare. -/
theorem lcdSwitch : Obligations.LcdSwitch := by
  unfold Obligations.LcdSwitch
  intro s v hdma
  have hwrite : s.write 0xFF40 v = { s with ppu := (s.ppu.writeLcdc v).1 }.request (s.ppu.writeLcdc v).2 :=
    State.write_of_idle hdma _ v
  refine ⟨fun hsame => ?_, fun hwas hnow => ?_, fun hwas hnow => ?_⟩
  · rw [hwrite, Ppu.writeLcdc_of_same hsame]
    simp [State.request]
  · rw [hwrite, Ppu.writeLcdc_of_on hwas hnow]
    simp [State.request, Ppu.lcdEnable, Ppu.clearOamBuffer]
  · rw [hwrite, Ppu.writeLcdc_of_off hwas hnow]
    unfold Ppu.lcdDisable
    dsimp only
    rw [Ppu.setLy_fst, Ppu.setLy_snd]
    have hiflag : (s.iflag ||| if (0 : Byte) = s.ppu.lyc ∧ s.ppu.statSel.getLsbD 3 = true then irqBit .stat else 0) =
        if s.ppu.lyc = 0 ∧ s.ppu.statSel.getLsbD 3 = true then s.iflag ||| irqBit .stat else s.iflag := by
      rw [apply_ite (s.iflag ||| ·)]
      exact if_congr (and_congr_left' eq_comm) rfl BitVec.or_zero
    have hequal : decide ((0 : Byte) = s.ppu.lyc) = decide (s.ppu.lyc = 0) := decide_eq_decide.2 eq_comm
    rw [← hiflag, ← hequal]
    rfl

/-! ### The PPU's requests -/

/-- The request of entering a mode in one formula (R534). -/
theorem Ppu.modeIrq_eq (p : Ppu) (m : Mode) :
    p.modeIrq m =
      if (m = .hblank ∧ p.statSel.getLsbD 0 = true) ∨ (m = .vblank ∧ p.statSel.getLsbD 1 = true) ∨
          (m = .oamSearch ∧ p.statSel.getLsbD 2 = true) then irqBit .stat else 0 := by
  cases m <;> simp [Ppu.modeIrq]

/-- Settles O47: the compare by its two branches, the mode entries by `modeIrq_eq`. -/
theorem statRequests : Obligations.StatRequests := by
  unfold Obligations.StatRequests
  intro p m
  exact ⟨fun heq => if_pos heq, fun hne => if_neg hne, rfl, p.modeIrq_eq m, rfl, rfl⟩

end Sys2Proof.Machine
end

section
/-! SUPPORT. The Timer's T-cycle (spec/61_timer.md R452, R459, R460): the reload step, the falling edge, and the four T-cycles after
an overflow, in which the watched bit cannot fall again. O41. -/

namespace Sys2Proof.Machine

/-! ### One T-cycle -/

/-- The watched divider bit and the enable bit after the divider's next increment (R452). -/
def Timer.nextAnd (t : Timer) : Bool :=
  (t.divCounter + 1).getLsbD t.watchedBit && t.tac.getLsbD 2

/-- A pending reload moves TIMA and the countdown at most (R460). -/
theorem Timer.reloadStep_eq (t : Timer) :
    t.reloadStep = { t with tima := t.reloadStep.tima, reloadCountdown := t.reloadStep.reloadCountdown } := by
  unfold Timer.reloadStep
  split
  · rfl
  · split <;> rfl

@[simp] theorem Timer.reloadStep_divCounter (t : Timer) : t.reloadStep.divCounter = t.divCounter := by rw [t.reloadStep_eq]
@[simp] theorem Timer.reloadStep_tma (t : Timer) : t.reloadStep.tma = t.tma := by rw [t.reloadStep_eq]
@[simp] theorem Timer.reloadStep_tac (t : Timer) : t.reloadStep.tac = t.tac := by rw [t.reloadStep_eq]
@[simp] theorem Timer.reloadStep_prevAnd (t : Timer) : t.reloadStep.prevAnd = t.prevAnd := by rw [t.reloadStep_eq]

@[simp] theorem Timer.reloadStep_nextAnd (t : Timer) : t.reloadStep.nextAnd = t.nextAnd := by
  rw [t.reloadStep_eq]
  rfl

/-- The divider counts whether or not an edge falls. -/
theorem Timer.edgeStep_of_level {t : Timer} (h : (t.prevAnd && !t.nextAnd) = false) :
    t.edgeStep = ({ t with divCounter := t.divCounter + 1, prevAnd := t.nextAnd }, 0) := by
  have hedge : ∀ q : Timer × Irq,
      (if (t.prevAnd && !t.nextAnd) = true then q else ({ t with divCounter := t.divCounter + 1 }, 0)) =
        ({ t with divCounter := t.divCounter + 1 }, 0) := fun q => if_neg (Bool.eq_false_iff.1 h)
  exact congrArg (fun q : Timer × Irq => ({ q.1 with prevAnd := t.nextAnd }, q.2)) (hedge _)

/-- A falling edge increments TIMA, or finds it at 0xFF: an overflow (R452, R459). -/
theorem Timer.edgeStep_of_fall {t : Timer} (h : (t.prevAnd && !t.nextAnd) = true) :
    (t.tima ≠ 0xFF →
      t.edgeStep = ({ t with divCounter := t.divCounter + 1, prevAnd := t.nextAnd, tima := t.tima + 1 }, 0)) ∧
    (t.tima = 0xFF →
      t.edgeStep =
        ({ t with divCounter := t.divCounter + 1, prevAnd := t.nextAnd, tima := 0, reloadCountdown := 4 },
          irqBit .timer)) := by
  have hedge : t.edgeStep =
      ({ (Timer.increment { t with divCounter := t.divCounter + 1 }).1 with prevAnd := t.nextAnd },
        (Timer.increment { t with divCounter := t.divCounter + 1 }).2) :=
    congrArg (fun q : Timer × Irq => ({ q.1 with prevAnd := t.nextAnd }, q.2)) (if_pos h)
  rw [hedge, Timer.increment]
  refine ⟨fun hne => ?_, fun hfull => ?_⟩
  · rw [if_neg hne]
  · rw [if_pos hfull]

/-- Whatever the edge, the divider counts, the detector moves on to the new level, and TMA and TAC stand still. -/
theorem Timer.edgeStep_fields (t : Timer) :
    t.edgeStep.1.divCounter = t.divCounter + 1 ∧ t.edgeStep.1.prevAnd = t.nextAnd ∧ t.edgeStep.1.tma = t.tma ∧
      t.edgeStep.1.tac = t.tac ∧ t.edgeStep.1.andResult = t.nextAnd := by
  cases h : t.prevAnd && !t.nextAnd with
  | false =>
    rw [Timer.edgeStep_of_level h]
    exact ⟨rfl, rfl, rfl, rfl, rfl⟩
  | true =>
    obtain ⟨hcount, hoverflow⟩ := Timer.edgeStep_of_fall h
    by_cases hfull : t.tima = 0xFF
    · rw [hoverflow hfull]
      exact ⟨rfl, rfl, rfl, rfl, rfl⟩
    · rw [hcount hfull]
      exact ⟨rfl, rfl, rfl, rfl, rfl⟩

/-- Bit 9, 3, 5 or 7 by TAC (R451). -/
theorem Timer.watchedBit_eq (t : Timer) : t.watchedBit = [9, 3, 5, 7].getD (t.tac.toNat % 4) 0 := by
  unfold Timer.watchedBit
  rw [BitVec.toNat_setWidth]
  have h : t.tac.toNat % 4 < 4 := Nat.mod_lt _ (by decide)
  show (match t.tac.toNat % 4 with | 0 => 9 | 1 => 3 | 2 => 5 | _ => 7) = _
  interval_cases t.tac.toNat % 4 <;> rfl

theorem Timer.watchedBit_cases (t : Timer) :
    t.watchedBit = 9 ∨ t.watchedBit = 3 ∨ t.watchedBit = 5 ∨ t.watchedBit = 7 := by
  unfold Timer.watchedBit
  split <;> simp

/-! ### The four T-cycles after an overflow -/

/-- A watched bit that rises within three counts stays up for at least eight, so it does not fall on the next count. -/
theorem watchedBit_stays {d : Word} {b i : Nat} (hb : b = 9 ∨ b = 3 ∨ b = 5 ∨ b = 7) (hi : i < 4) (hlow : d.getLsbD b = false)
    (hup : (d + BitVec.ofNat 16 i).getLsbD b = true) : (d + BitVec.ofNat 16 (i + 1)).getLsbD b = true := by
  simp only [BitVec.getLsbD, BitVec.toNat_add, BitVec.toNat_ofNat, Nat.testBit_eq_decide_div_mod_eq, decide_eq_false_iff_not,
    decide_eq_true_eq] at hlow hup ⊢
  obtain rfl | rfl | rfl | rfl := hb <;> omega

/-- The Timer `i` T-cycles after the overflow that left `u`: the divider has counted on, TIMA is 0 until the countdown of 4 is over
and TMA then (R459, R460). -/
def Timer.afterOverflow (u : Timer) (i : Nat) : Timer :=
  { u with divCounter := u.divCounter + BitVec.ofNat 16 i, tima := if i < 4 then 0 else u.tma, reloadCountdown := 4 - i,
           prevAnd := (u.divCounter + BitVec.ofNat 16 i).getLsbD u.watchedBit && u.tac.getLsbD 2 }

/-- The reload step of these T-cycles: the countdown, and the reload at the fourth. -/
theorem Timer.reloadStep_afterOverflow (u : Timer) {i : Nat} (hi : i < 4) :
    (u.afterOverflow i).reloadStep =
      { u.afterOverflow i with tima := (u.afterOverflow (i + 1)).tima, reloadCountdown := 4 - (i + 1) } := by
  interval_cases i <;> rfl

theorem Timer.nextAnd_afterOverflow (u : Timer) (i : Nat) :
    (u.afterOverflow i).nextAnd = (u.afterOverflow (i + 1)).prevAnd := by
  show ((u.divCounter + BitVec.ofNat 16 i + BitVec.ofNat 16 1).getLsbD u.watchedBit && u.tac.getLsbD 2) = _
  rw [BitVec.add_assoc, BitVec.ofNat_add_ofNat]
  rfl

/-- No edge falls in the four T-cycles after one. -/
theorem Timer.afterOverflow_level {u : Timer} (hlow : u.andResult = false) {i : Nat} (hi : i < 4) :
    ((u.afterOverflow i).prevAnd && !(u.afterOverflow (i + 1)).prevAnd) = false := by
  simp only [Timer.andResult, Timer.afterOverflow] at hlow ⊢
  cases hen : u.tac.getLsbD 2 with
  | false => simp
  | true =>
    rw [hen, Bool.and_true] at hlow
    cases hup : (u.divCounter + BitVec.ofNat 16 i).getLsbD u.watchedBit with
    | false => simp
    | true => rw [watchedBit_stays u.watchedBit_cases hi hlow hup]; rfl

theorem Timer.tick_afterOverflow {u : Timer} (hlow : u.andResult = false) {i : Nat} (hi : i < 4) :
    (u.afterOverflow i).tick.1 = u.afterOverflow (i + 1) := by
  have hnext : (u.afterOverflow i).reloadStep.nextAnd = (u.afterOverflow (i + 1)).prevAnd :=
    (Timer.reloadStep_nextAnd _).trans (u.nextAnd_afterOverflow i)
  have hlevel : ((u.afterOverflow i).reloadStep.prevAnd && !(u.afterOverflow i).reloadStep.nextAnd) = false := by
    rw [Timer.reloadStep_prevAnd, hnext]
    exact Timer.afterOverflow_level hlow hi
  have hdiv : u.divCounter + BitVec.ofNat 16 i + 1 = u.divCounter + BitVec.ofNat 16 (i + 1) := by
    rw [BitVec.add_assoc, BitVec.ofNat_add]
    rfl
  rw [Timer.tick, Timer.edgeStep_of_level hlevel, hnext, u.reloadStep_afterOverflow hi]
  simp only [Timer.afterOverflow, hdiv]

theorem Timer.ticks_afterOverflow {u : Timer} (hlow : u.andResult = false) (n : Nat) {i : Nat} (hi : i + n ≤ 4) :
    (Timer.ticks n (u.afterOverflow i)).1 = u.afterOverflow (i + n) := by
  induction n generalizing i with
  | zero => rfl
  | succ n ih =>
    rw [Timer.ticks]
    dsimp only
    rw [Timer.tick_afterOverflow hlow (by omega), ih (by omega), Nat.add_assoc, Nat.add_comm 1]

/-- A Timer that has just overflowed is the first of these states. -/
theorem Timer.afterOverflow_zero {u : Timer} (htima : u.tima = 0) (hcount : u.reloadCountdown = 4)
    (hprev : u.prevAnd = u.andResult) : u.afterOverflow 0 = u := by
  have hstart : u.afterOverflow 0 = { u with tima := 0, reloadCountdown := 4, prevAnd := u.andResult } := by
    rw [Timer.afterOverflow, BitVec.add_zero]
    rfl
  rw [hstart, ← htima, ← hcount, ← hprev]

/-- Settles O41: the three cases of the edge on the reloaded Timer, and the countdown after an overflow. -/
theorem timerOverflow : Obligations.TimerOverflow := by
  unfold Obligations.TimerOverflow
  intro t u q low high fell
  have hhigh : t.reloadStep.nextAnd = high := by
    rw [t.reloadStep_nextAnd, Timer.nextAnd, t.watchedBit_eq]
  have hfell : (t.reloadStep.prevAnd && !t.reloadStep.nextAnd) = fell := by
    rw [t.reloadStep_prevAnd, hhigh]
  obtain ⟨hdiv, hprev, htma, htac, hand⟩ := t.reloadStep.edgeStep_fields
  simp only [Timer.reloadStep_divCounter, Timer.reloadStep_tma, Timer.reloadStep_tac] at hdiv htma htac
  refine ⟨hdiv, hprev.trans hhigh, htma, htac, fun hf => ?_, fun hf hne => ?_, fun hf hfull => ?_⟩
  · have hq : q = _ := Timer.edgeStep_of_level (hfell.trans hf)
    rw [hq]
    exact ⟨rfl, rfl, rfl⟩
  · have hq : q = _ := (Timer.edgeStep_of_fall (hfell.trans hf)).1 hne
    rw [hq]
    exact ⟨rfl, rfl, rfl⟩
  · have hq : q = _ := (Timer.edgeStep_of_fall (hfell.trans hf)).2 hfull
    have htima : q.1.tima = 0 := by rw [hq]
    have hcount : q.1.reloadCountdown = 4 := by rw [hq]
    have hlow : q.1.andResult = false := by
      obtain ⟨-, hdown⟩ : t.prevAnd = true ∧ high = false := by simpa [fell] using hf
      exact (hand.trans hhigh).trans hdown
    refine ⟨htima, hcount, by rw [hq], fun n hn => ?_⟩
    rw [← Timer.afterOverflow_zero htima hcount (hprev.trans hand.symm),
      Timer.ticks_afterOverflow hlow n (by omega), Nat.zero_add]
    exact ite_congr rfl (fun _ => rfl) fun _ => htma

end Sys2Proof.Machine
end

section
/-! SUPPORT. Taking an interrupt (spec/60_exceptions.md R405 to R408) and the halted CPU that nothing wakes
(spec/70_reset_and_hazards.md R741). O10 and O8. -/

namespace Sys2Proof.Machine

/-! ### The source served -/

/-- The interrupt sources by IF bit (R400). -/
def irqSource (k : Fin 5) : IrqSource :=
  match k with
  | 0 => .vblank
  | 1 => .stat
  | 2 => .timer
  | 3 => .serial
  | 4 => .joypad

theorem irqBit_irqSource (k : Fin 5) : irqBit (irqSource k) = (1 : BitVec 5) <<< k.val := by
  fin_cases k <;> rfl

theorem vector_irqSource (k : Fin 5) : vector (irqSource k) = BitVec.ofNat 16 (0x0040 + 8 * k.val) := by
  fin_cases k <;> rfl

/-- A source is pending when its bit is set in IE and in IF (R404). -/
theorem State.getLsbD_pending (s : State) (k : Fin 5) : s.pending.getLsbD k = (s.ie.getLsbD k && s.iflag.getLsbD k) := by
  rw [State.pending, BitVec.getLsbD_and, BitVec.getLsbD_setWidth, decide_eq_true k.isLt, Bool.true_and]

/-- The lowest set bit names the source served (R405): a fact about 32 sets and five bits. -/
theorem lowestSource_eq :
    ∀ {p : Irq} {k : Fin 5}, p.getLsbD k = true → (∀ j : Fin 5, j < k → p.getLsbD j = false) → lowestSource p = irqSource k := by
  decide

/-! ### The step that serves it -/

/-- What follows the pushes of a dispatch that neither byte stopped. -/
theorem State.served_endStep_of_none {v : State} (target : Word) (hf : v.faulted = none) (hr : v.refused = none) :
    (v.andThen fun t => (t.setPc target).tick 20).endStep = ((v.setPc target).tick 20).catchUp := by
  rw [State.andThen_of_none _ _ hf]
  exact if_neg (Bool.eq_false_iff.1 (State.stopped_eq_false (s := (v.setPc target).tick 20) hf hr))

/-- A push byte that faults ends the step there (R420). -/
theorem State.served_endStep_of_some {v : State} (target : Word) {r : Fault} (hf : v.faulted = some r) :
    (v.andThen fun t => (t.setPc target).tick 20).endStep = v := by
  rw [State.andThen_of_some _ _ hf]
  exact if_pos (State.stopped_of_faulted hf)

/-- The state a dispatch of source `k` pushes PC from: awake, with IME, a pending EI and IF bit `k` cleared (R353, R407). -/
def State.serving (s : State) (k : Fin 5) : State :=
  { s with ime := false, imeDelay := 0, halted := false, iflag := s.iflag &&& ~~~((1 : BitVec 5) <<< k.val) }

/-- With IME set and source `k` the lowest pending one the step is its dispatch, a halted CPU waking first (R350, R353, R405). -/
theorem step_of_pending {s : State} {k : Fin 5} (h : s.NoFault) (hl : s.locked = false) (hime : s.ime = true)
    (hset : s.pending.getLsbD k = true) (hlow : ∀ j : Fin 5, j < k → s.pending.getLsbD j = false) :
    step s = .next (((s.serving k).push16 s.regs.pc).andThen fun t =>
      (t.setPc (BitVec.ofNat 16 (0x0040 + 8 * k.val))).tick 20).endStep := by
  have hsome : s.pending ≠ 0 := fun h0 => by simp [h0] at hset
  have hdispatch : s.wake.dispatches = true := by
    show (s.ime && s.pending != 0) = true
    rw [hime, Bool.true_and]
    exact bne_iff_ne.2 hsome
  have hsource : lowestSource s.wake.pending = irqSource k := lowestSource_eq hset hlow
  rw [step_of_awake h (State.waits_eq_false_of_pending hl hsome), stepAwake, if_pos hdispatch, State.dispatch, hsource,
    vector_irqSource, State.acknowledge, irqBit_irqSource]
  rfl

/-- Settles O10: the step pushes PC from `State.serving`, and stops after a push byte that faults (R420). -/
theorem dispatchServesLowest : Obligations.DispatchServesLowest := by
  unfold Obligations.DispatchServesLowest
  intro s k hs hl hime hie hif hlow u hi lo served
  have hset : s.pending.getLsbD k = true := by rw [s.getLsbD_pending, hie, hif]; rfl
  have hclear : ∀ j : Fin 5, j < k → s.pending.getLsbD j = false := fun j hj => by
    rw [s.getLsbD_pending]
    exact Bool.and_eq_false_iff.2 (hlow j hj)
  have hstep : step s = .next ((u.push16 s.regs.pc).andThen _).endStep := step_of_pending hs hl hime hset hclear
  obtain ⟨hfault, hrefusal⟩ := hs
  have hframe : CpuFrame u served := u.writeTwice_frame _ _ _ _
  have hmark : u.writeFaults (s.regs.sp - 1).toNat hi = false → (u.write (s.regs.sp - 1) hi).faulted = none :=
    fun hok => (State.write_faulted_of_ok hok).trans hfault
  have hboth : u.writeFaults (s.regs.sp - 1).toNat hi = false →
      u.push16 s.regs.pc = { served with regs := { s.regs with sp := s.regs.sp - 2 } } :=
    fun hok => (State.push16_of_ok (hmark hok)).trans (State.setSp_of_regs hframe.regs _)
  refine ⟨fun hok hok' => ?_, fun hfirst => ?_, fun hok hsecond => ?_⟩
  · have hmark' : served.faulted = none := (State.write_faulted_of_ok hok').trans (hmark hok)
    rw [hboth hok] at hstep
    exact ⟨_, hstep.trans (congrArg _ (State.served_endStep_of_none _ hmark' (hframe.refused.trans hrefusal))), rfl,
      hframe.ime, hframe.imeDelay, hframe.halted, hframe.haltBug, hmark', u.writeTwice_bytes _ _ _ _⟩
  · have hmark' := State.write_faulted_of_fault hfirst
    have hpush : u.push16 s.regs.pc = { u.write (s.regs.sp - 1) hi with regs := { s.regs with sp := s.regs.sp - 1 } } :=
      (State.push16_of_fault hmark').trans (State.setSp_of_regs (u.write_regs _ _) _)
    rw [hpush] at hstep
    exact ⟨hstep.trans (congrArg _ (State.served_endStep_of_some _ hmark')), hmark'⟩
  · have hmark' : served.faulted = some _ := State.write_faulted_of_fault hsecond
    rw [hboth hok] at hstep
    exact ⟨hstep.trans (congrArg _ (State.served_endStep_of_some _ hmark')), hmark'⟩

/-! ### A halted CPU with no source enabled -/

theorem State.pending_eq_zero_of_ie {s : State} (h : s.ie &&& 0x1F = 0) : s.pending = 0 := by
  have hie : s.ie.setWidth 5 = 0 := by
    calc s.ie.setWidth 5 = s.ie.setWidth 5 &&& (0x1F : Byte).setWidth 5 := BitVec.and_allOnes.symm
      _ = (s.ie &&& 0x1F).setWidth 5 := BitVec.setWidth_and.symm
      _ = 0 := by rw [h]; rfl
  rw [State.pending, hie]
  exact BitVec.zero_and

/-- A halted CPU with no source enabled stays so for any number of steps, each of one T-cycle. -/
theorem run_of_halted (n : Nat) {s : State} (h : s.NoFault) (hl : s.locked = false) (hh : s.halted = true)
    (hie : s.ie &&& 0x1F = 0) :
    ∃ t, Host.Core.run Sys2Proof.core n s = .next t ∧ t.halted = true ∧ t.regs = s.regs ∧
      t.cycles = s.cycles + BitVec.ofNat 64 n ∧ t.NoFault := by
  induction n generalizing s with
  | zero => exact ⟨s, rfl, hh, rfl, by simp, h⟩
  | succ n ih =>
    have hstep : step s = .next (s.tick 1).catchUp := (haltedStep s h hl hh).1 (State.pending_eq_zero_of_ie hie)
    obtain ⟨t, hrun, hhalted, hregs, hcycles, hfault⟩ :=
      ih (s := (s.tick 1).catchUp) (by simpa [State.NoFault] using h) (by simpa using hl) (by simpa using hh)
        (by simpa using hie)
    refine ⟨t, (run_succ n hstep).trans hrun, hhalted, by simpa using hregs, ?_, hfault⟩
    rw [hcycles, State.catchUp_cycles, State.tick_cycles, BitVec.add_assoc, BitVec.ofNat_add_ofNat, Nat.add_comm 1]

/-- Settles O8: the state after `n` steps is halted, and no halted state meets the conditions of R740. -/
theorem haltWithoutEnableHangs : Obligations.HaltWithoutEnableHangs := by
  unfold Obligations.HaltWithoutEnableHangs
  intro n s h hl hh hie
  obtain ⟨t, hrun, hhalted, hrest⟩ := run_of_halted n h hl hh hie
  refine ⟨⟨t, hrun, hhalted, hrest⟩, ?_⟩
  rintro e t' ⟨hrun', hend, -⟩
  obtain ⟨-, -, -, hawake, -⟩ := hend
  cases hrun.symm.trans hrun'
  rw [hhalted] at hawake
  cases hawake

end Sys2Proof.Machine
end

section
/-! SUPPORT. One T-cycle of the pixel pipeline, part by part (spec/63_ppu_pipeline.md): the background fetcher (R562 to R568), the
sprite fetcher (R570 to R574), the window check (R575, R576) and the pixel output (R580 to R590). O50, O51, O52 and O53. -/

namespace Sys2Proof.Machine

/-! ### The window check -/

theorem Ppu.windowDue_latch_iff (p : Ppu) :
    p.windowLatch.windowDue = true ↔
      p.windowActiveLine = false ∧ p.lcdc.getLsbD 5 = true ∧ (p.windowYTriggered || p.ly == p.wy) = true ∧
        p.wx.toNat ≤ p.pixelX + 7 := by
  have hcolumn : (p.wx.toNat : Int) - 7 ≤ (p.pixelX : Int) ↔ p.wx.toNat ≤ p.pixelX + 7 := by omega
  simp only [Ppu.windowDue, Ppu.windowLatch, Bool.and_eq_true, Bool.not_eq_true', decide_eq_true_eq, hcolumn, and_assoc]

theorem Ppu.windowCheck_of_due {p : Ppu} (h : p.windowLatch.windowDue = true) :
    p.windowCheck = p.windowLatch.activateWindow :=
  if_pos h

theorem Ppu.windowCheck_of_not_due {p : Ppu} (h : ¬ p.windowLatch.windowDue = true) : p.windowCheck = p.windowLatch :=
  if_neg h

/-- Settles O53: the check activates the window or only latches, by `windowDue_latch_iff`. -/
theorem windowActivation : Obligations.WindowActivation := by
  unfold Obligations.WindowActivation
  intro p latched due
  have hiff : p.windowLatch.windowDue = true ↔ due := p.windowDue_latch_iff
  exact ⟨fun hdue => ⟨_, _, _, Ppu.windowCheck_of_due (hiff.2 hdue)⟩,
    fun hnot => Ppu.windowCheck_of_not_due fun h => hnot (hiff.1 h)⟩

/-! ### The pixel output -/

/-- A shade is two bits of its palette (R61, R590). -/
theorem shade_eq (palette : Byte) (i : BitVec 2) : shade palette i = ((palette >>> (2 * i.toNat)) &&& 3).setWidth 2 := by
  calc shade palette i = (palette >>> (2 * i.toNat)).setWidth 2 &&& (3 : Byte).setWidth 2 := BitVec.and_allOnes.symm
    _ = ((palette >>> (2 * i.toNat)) &&& 3).setWidth 2 := BitVec.setWidth_and.symm

theorem Ppu.outputPixel_of_discard {p : Ppu} {b : BitVec 2} {rest : List (BitVec 2)} (hfifo : p.bgFifo = b :: rest)
    (h : 0 < p.discard) : p.outputPixel = { p with bgFifo := rest, discard := p.discard - 1 } := by
  rw [Ppu.outputPixel, hfifo]
  exact if_pos h

theorem Ppu.outputPixel_of_emit {p : Ppu} {b : BitVec 2} {rest : List (BitVec 2)} (hfifo : p.bgFifo = b :: rest)
    (h : p.discard = 0) : p.outputPixel = p.emitPixel b rest := by
  rw [Ppu.outputPixel, hfifo]
  exact if_neg (by omega)

theorem Ppu.spriteTransparent_iff (p : Ppu) (b : BitVec 2) (px : SpritePixel) :
    p.spriteTransparent b px = true ↔ px.colorIndex = 0 ∨ p.lcdc.getLsbD 1 = false ∨ (px.priority = true ∧ b ≠ 0) := by
  simp only [Ppu.spriteTransparent, Bool.or_eq_true, beq_iff_eq, Bool.not_eq_true', Bool.and_eq_true, bne_iff_ne, or_assoc]

theorem Ppu.composite_of_off {p : Ppu} (h : p.lcdc.getLsbD 0 = false) (b : BitVec 2) (s : Option SpritePixel) :
    p.composite b s = 0 :=
  if_neg (Bool.eq_false_iff.1 h)

theorem Ppu.composite_none {p : Ppu} (h : p.lcdc.getLsbD 0 = true) (b : BitVec 2) : p.composite b none = shade p.bgp b :=
  if_pos h

theorem Ppu.composite_some {p : Ppu} (h : p.lcdc.getLsbD 0 = true) (b : BitVec 2) (px : SpritePixel) :
    p.composite b (some px) =
      if p.spriteTransparent b px then shade p.bgp b
      else shade (if px.palette then p.obp1 else p.obp0) px.colorIndex :=
  if_pos h

/-- Settles O52: a discard or an emitted pixel, and the shade by the cases of `Composite`. -/
theorem pixelOutput : Obligations.PixelOutput := by
  unfold Obligations.PixelOutput
  intro p b rest hfifo
  refine ⟨Ppu.outputPixel_of_discard hfifo, fun h => ⟨p.composite b p.sprFifo.head?, Ppu.outputPixel_of_emit hfifo h,
    fun hoff => Ppu.composite_of_off hoff _ _, fun hon hnone => ?_, fun px more hon hsome => ?_⟩⟩
  · rw [hnone, ← shade_eq]
    exact Ppu.composite_none hon b
  · rw [hsome, ← shade_eq, ← shade_eq]
    exact (Ppu.composite_some hon b px).trans (if_congr (p.spriteTransparent_iff b px) rfl rfl)

/-! ### The background fetcher -/

/-- The first T-cycle of GetTile, GetTileDataLow and GetTileDataHigh (R562). -/
theorem Ppu.bgStep_first {p : Ppu} (hs : p.bg.state ≠ .push) (ht : p.bg.timer = 0) :
    p.bgStep = { p with bg := { p.bg with timer := 1 } } := by
  unfold Ppu.bgStep
  cases h : p.bg.state with
  | push => exact absurd h hs
  | getTile | getTileDataLow | getTileDataHigh => exact if_pos ht

theorem Ppu.bgStep_getTile {p : Ppu} (hs : p.bg.state = .getTile) (ht : p.bg.timer = 1) : p.bgStep = p.bgGetTile := by
  rw [Ppu.bgStep, hs]
  exact if_neg (by simp [ht])

theorem Ppu.bgStep_getLow {p : Ppu} (hs : p.bg.state = .getTileDataLow) (ht : p.bg.timer = 1) : p.bgStep = p.bgGetLow := by
  rw [Ppu.bgStep, hs]
  exact if_neg (by simp [ht])

theorem Ppu.bgStep_getHigh {p : Ppu} (hs : p.bg.state = .getTileDataHigh) (ht : p.bg.timer = 1) :
    p.bgStep = p.bgGetHigh := by
  rw [Ppu.bgStep, hs]
  exact if_neg (by simp [ht])

theorem Ppu.bgStep_push_full {p : Ppu} (hs : p.bg.state = .push) (hfifo : p.bgFifo ≠ []) : p.bgStep = p := by
  rw [Ppu.bgStep, hs]
  exact if_neg (by simpa using hfifo)

theorem Ppu.bgStep_push_empty {p : Ppu} (hs : p.bg.state = .push) (hfifo : p.bgFifo = []) :
    p.bgStep =
      { p with bgFifo := rowColors p.bg.dataLow p.bg.dataHigh,
               bg := { p.bg with fetchX := p.bg.fetchX + 1, state := .getTile } } := by
  rw [Ppu.bgStep, hs]
  exact if_pos (by simp [hfifo])

/-- The line of the background or window map the fetcher reads (R563, R564): a byte. -/
def Ppu.mapLine (p : Ppu) : Byte :=
  if p.windowActiveLine then BitVec.ofInt 8 p.windowLine else p.ly + p.scy

/-- Modulo 256 a window line has the same row of its tile, and modulo 32 the same row of tiles. -/
theorem toNat_ofInt_byte (w : Int) :
    (BitVec.ofInt 8 w).toNat / 8 = ((w / 8) % 32).toNat ∧ (BitVec.ofInt 8 w).toNat % 8 = (w % 8).toNat := by
  rw [BitVec.toNat_ofInt]
  omega

theorem Ppu.tileRow_eq (p : Ppu) : p.tileRow = p.mapLine.toNat % 8 := by
  unfold Ppu.tileRow Ppu.mapLine
  split
  · exact (toNat_ofInt_byte _).2.symm
  · rfl

/-- The tile map entry by its bus address (R563). -/
theorem Ppu.tileMapOffset_eq (p : Ppu) :
    (if p.lcdc.getLsbD (if p.windowActiveLine then 6 else 3) then 0x9C00 else 0x9800) + 32 * (p.mapLine.toNat / 8) +
        ((if p.windowActiveLine then 0 else p.scx.toNat / 8) + p.bg.fetchX.toNat) % 32 - 0x8000 =
      p.tileMapOffset := by
  unfold Ppu.tileMapOffset Ppu.mapLine
  cases p.windowActiveLine with
  | true =>
    have hrow := (toNat_ofInt_byte p.windowLine).1
    simp only [if_true]
    split <;> omega
  | false =>
    simp only [Bool.false_eq_true, if_false]
    split <;> omega

/-- The tile data by its bus address: unsigned from 0x8000, or signed from 0x9000 (R567). -/
theorem Ppu.toNat_tileData (p : Ppu) (t : Byte) :
    (if p.lcdc.getLsbD 4 then (0x8000 : Word) + 16 * t.setWidth 16 else 0x9000 + 16 * t.signExtend 16).toNat =
      0x8000 + p.tileDataOffset t := by
  have ht := t.isLt
  have h16 : (16 : Word).toNat = 16 := rfl
  have hunsigned : (0x8000 : Word).toNat = 0x8000 := rfl
  have hsigned : (0x9000 : Word).toNat = 0x9000 := rfl
  unfold Ppu.tileDataOffset
  split
  · rw [BitVec.toNat_add, BitVec.toNat_mul, BitVec.toNat_setWidth, h16, hunsigned]
    omega
  · rw [BitVec.toNat_add, BitVec.toNat_mul, BitVec.toNat_signExtend, BitVec.toNat_setWidth, BitVec.toInt_eq_msb_cond,
      BitVec.msb_eq_decide, h16, hsigned]
    simp only [decide_eq_true_eq]
    split <;> omega

/-- A bit of a byte as a quotient and a remainder. -/
theorem toNat_ofBool_getLsbD (v : Byte) (k : Nat) : (BitVec.ofBool (v.getLsbD k)).toNat = v.toNat / 2 ^ k % 2 := by
  rw [BitVec.toNat_ofBool, BitVec.getLsbD, Nat.toNat_testBit]

/-- The colour index of bit `k`: the high plane's bit, then the low plane's (R568). -/
theorem planes_eq (low high : Byte) (k : Nat) :
    BitVec.ofBool (high.getLsbD k) ++ BitVec.ofBool (low.getLsbD k) =
      BitVec.ofNat 2 (2 * (high.toNat / 2 ^ k % 2) + low.toNat / 2 ^ k % 2) := by
  rw [← toNat_ofBool_getLsbD, ← toNat_ofBool_getLsbD]
  cases high.getLsbD k <;> cases low.getLsbD k <;> rfl

theorem rowColors_eq (low high : Byte) :
    rowColors low high =
      (List.range 8).map fun i => BitVec.ofNat 2 (2 * (high.toNat / 2 ^ (7 - i) % 2) + low.toNat / 2 ^ (7 - i) % 2) :=
  List.map_congr_left fun i _ => planes_eq low high (7 - i)

/-- Settles O50: one lemma a state and T-cycle, with the bus addresses of R563, R564 and R567. -/
theorem backgroundFetch : Obligations.BackgroundFetch := by
  unfold Obligations.BackgroundFetch
  intro p f vram line mapBase tileX tileY tileData row
  have hmap : vram (mapBase + 32 * tileY + tileX) = p.vramAt p.tileMapOffset := congrArg (memGet p.vram) p.tileMapOffset_eq
  have hrow : row = p.tileRow := p.tileRow_eq.symm
  have hdata : ∀ j, vram (tileData.toNat + j) = p.vramAt (p.tileDataOffset f.tileIndex + j) := fun j =>
    congrArg (memGet p.vram) (by rw [p.toNat_tileData]; omega)
  have hlow := hdata (2 * row)
  have hhigh : vram (tileData.toNat + 2 * row + 1) = p.vramAt (p.tileDataOffset f.tileIndex + 2 * row + 1) :=
    hdata (2 * row + 1)
  rw [hrow] at hlow hhigh
  rw [hmap, hrow, hlow, hhigh, ← rowColors_eq]
  exact ⟨Ppu.bgStep_first, fun ht => ⟨fun hs => Ppu.bgStep_getTile hs ht, fun hs => Ppu.bgStep_getLow hs ht,
    fun hs => Ppu.bgStep_getHigh hs ht⟩, Ppu.bgStep_push_full, Ppu.bgStep_push_empty, rfl, rfl⟩

/-! ### The sprite fetcher -/

theorem Ppu.fetchAction_of_active {p : Ppu} (h : p.spr.active = true) : p.fetchAction = p.spriteStep :=
  if_pos h

theorem Ppu.fetchAction_of_due {p : Ppu} (hidle : p.spr.active = false) (hroom : p.sprFifo.length < 8) {e : OamEntry}
    (hdue : p.spriteDue = some e) : p.fetchAction = (p.startSpriteFetch e).spriteStep := by
  rw [Ppu.fetchAction, if_neg (Bool.eq_false_iff.1 hidle), if_pos hroom, hdue]

theorem Ppu.fetchAction_of_none {p : Ppu} (hidle : p.spr.active = false)
    (hnone : 8 ≤ p.sprFifo.length ∨ p.spriteDue = none) : p.fetchAction = p.bgStep := by
  rw [Ppu.fetchAction, if_neg (Bool.eq_false_iff.1 hidle)]
  obtain hfull | hnone := hnone
  · exact if_neg (Nat.not_lt.2 hfull)
  · rw [hnone]
    exact ite_self _

/-- An active fetch acts on its entry: a wait on the first T-cycle of a state other than Push, else the state's action (R571). -/
theorem Ppu.spriteStep_first {p : Ppu} {e : OamEntry} (he : p.spr.entry = some e) (hs : p.spr.state ≠ .push)
    (ht : p.spr.timer = 0) : p.spriteStep = { p with spr := { p.spr with timer := 1 } } := by
  simp only [Ppu.spriteStep, he]
  rw [if_neg hs, if_pos ht]

theorem Ppu.spriteStep_action {p : Ppu} {e : OamEntry} (he : p.spr.entry = some e)
    (h : p.spr.state = .push ∨ p.spr.timer = 1) : p.spriteStep = p.spriteAction e := by
  simp only [Ppu.spriteStep, he]
  obtain hs | ht := h
  · exact if_pos hs
  · rw [if_neg (c := p.spr.timer = 0) (by simp [ht])]
    exact ite_self _

/-- The row of the sprite on this line before Y flip, in a byte's arithmetic (R573). -/
def Ppu.spriteLine (p : Ppu) (e : OamEntry) : Nat :=
  (p.ly + 16 - e.y).toNat % p.objHeight

/-- A sprite's height divides 256, so R573's integers and a byte's arithmetic give one row. -/
theorem Ppu.spriteRowOffset_eq (p : Ppu) (e : OamEntry) :
    p.spriteRowOffset e =
      16 * (if p.objHeight = 16 then (e.tile &&& 0xFE).toNat else e.tile.toNat) +
        2 * (if e.flags.getLsbD 6 then p.objHeight - 1 - p.spriteLine e else p.spriteLine e) := by
  have hrow : (((p.ly.toNat : Int) + 16 - e.y.toNat) % p.objHeight).toNat = p.spriteLine e := by
    have h16 : (16 : Byte).toNat = 16 := rfl
    have hy := e.y.isLt
    rw [Ppu.spriteLine, BitVec.toNat_sub, BitVec.toNat_add, h16]
    unfold Ppu.objHeight
    split <;> omega
  unfold Ppu.spriteRowOffset
  dsimp only
  rw [hrow]

/-- Pixel `i` of a fetched row, from the two planes' bit 7 - i, or bit i with X flip (R568, R574). -/
def spritePixel (low high : Byte) (e : OamEntry) (i : Nat) : SpritePixel :=
  let k := if e.flags.getLsbD 5 then i else 7 - i
  { colorIndex := BitVec.ofNat 2 (2 * (high.toNat / 2 ^ k % 2) + low.toNat / 2 ^ k % 2)
    priority := e.flags.getLsbD 7, palette := e.flags.getLsbD 4 }

theorem spriteRow_eq (low high : Byte) (e : OamEntry) : spriteRow low high e = (List.range 8).map (spritePixel low high e) := by
  unfold spriteRow spritePixel
  simp only [← planes_eq]
  cases e.flags.getLsbD 5 <;> rfl

/-- The entry at a position of the merged FIFO: an opaque pixel already there stays (R574). -/
def mergedPixel (old : Option SpritePixel) (new : SpritePixel) : SpritePixel :=
  match old with
  | some x => if x.colorIndex = 0 then new else x
  | none => new

/-- The merge, position by position, where the row is at least as long as the FIFO. -/
theorem mergeSprites_map_range (fifo : List SpritePixel) (g : Nat → SpritePixel) {n : Nat} (h : fifo.length ≤ n) :
    mergeSprites fifo ((List.range n).map g) = (List.range n).map fun i => mergedPixel fifo[i]? (g i) := by
  induction fifo generalizing g n with
  | nil => rfl
  | cons f fs ih =>
    cases n with
    | zero => simp at h
    | succ n =>
      have htail := ih (fun i => g (i + 1)) (Nat.le_of_succ_le_succ h)
      simp only [List.range_succ_eq_map, List.map_cons, List.map_map] at htail ⊢
      exact congrArg (_ :: ·) htail

/-- `p` in a sprite fetch of `e`. -/
def Ppu.fetchingSprite (p : Ppu) (e : OamEntry) (state : FetchState) (timer : Fin 2) (low high : Byte) : Ppu :=
  { p with spr := { active := true, state := state, timer := timer, entry := some e, dataLow := low, dataHigh := high } }

theorem Ppu.fetchAction_startsSprite {p : Ppu} (hidle : p.spr.active = false) (hroom : p.sprFifo.length < 8) {e : OamEntry}
    (hdue : p.spriteDue = some e) :
    p.fetchAction = p.fetchingSprite e .getTile 1 p.spr.dataLow p.spr.dataHigh :=
  (Ppu.fetchAction_of_due hidle hroom hdue).trans (Ppu.spriteStep_first rfl (by simp [Ppu.startSpriteFetch]) rfl)

/-- The state and timer of a sprite fetch after its `n`-th T-cycle, for n from 1 to 6 (R571). -/
def spriteFetchPhase (n : Nat) : FetchState × Fin 2 :=
  [(FetchState.getTile, (0 : Fin 2)), (.getTile, 1), (.getTileDataLow, 0), (.getTileDataLow, 1), (.getTileDataHigh, 0),
    (.getTileDataHigh, 1), (.push, 0)].getD n (.push, 0)

/-- `q` is `p` after `n` T-cycles of a sprite fetch of `e`, which has not ended: only the sprite fetcher has moved. -/
def Ppu.FetchesSprite (p : Ppu) (e : OamEntry) (n : Nat) (q : Ppu) : Prop :=
  ∃ low high, q = p.fetchingSprite e (spriteFetchPhase n).1 (spriteFetchPhase n).2 low high

theorem Ppu.FetchesSprite.fetchAction {p q : Ppu} {e : OamEntry} {n : Nat} (h : p.FetchesSprite e n q) (h1 : 1 ≤ n)
    (h5 : n ≤ 5) : p.FetchesSprite e (n + 1) q.fetchAction := by
  obtain ⟨low, high, rfl⟩ := h
  rw [Ppu.fetchAction_of_active rfl]
  interval_cases n
  · exact ⟨_, _, Ppu.spriteStep_action rfl (.inr rfl)⟩
  · exact ⟨_, _, Ppu.spriteStep_first rfl (by simp [Ppu.fetchingSprite, spriteFetchPhase]) rfl⟩
  · exact ⟨_, _, Ppu.spriteStep_action rfl (.inr rfl)⟩
  · exact ⟨_, _, Ppu.spriteStep_first rfl (by simp [Ppu.fetchingSprite, spriteFetchPhase]) rfl⟩
  · exact ⟨_, _, Ppu.spriteStep_action rfl (.inr rfl)⟩

/-- The seventh T-cycle is Push: the row is merged and the fetch is over (R571, R574). -/
theorem Ppu.FetchesSprite.push {p q : Ppu} {e : OamEntry} (h : p.FetchesSprite e 6 q) :
    ∃ low high, q.fetchAction =
      { p with sprFifo := mergeSprites p.sprFifo (spriteRow low high e),
               spr := { active := false, state := .push, timer := 0, entry := some e, dataLow := low, dataHigh := high } } := by
  obtain ⟨low, high, rfl⟩ := h
  rw [Ppu.fetchAction_of_active rfl]
  exact ⟨low, high, Ppu.spriteStep_action rfl (.inl rfl)⟩

theorem Ppu.FetchesSprite.iterate {p : Ppu} {e : OamEntry} (h : p.FetchesSprite e 1 p.fetchAction) {n : Nat} (hn : n ≤ 5) :
    p.FetchesSprite e (n + 1) (Ppu.fetchAction^[n + 1] p) := by
  induction n with
  | zero => exact h
  | succ n ih =>
    rw [Function.iterate_succ_apply']
    exact (ih (by omega)).fetchAction (by omega) hn

/-- A whole fetch: the background stands still for its seven T-cycles, six of them with the fetch active, and then the FIFO is full. -/
theorem Ppu.FetchesSprite.whole {p : Ppu} {e : OamEntry} (h : p.FetchesSprite e 1 p.fetchAction) (hidle : p.spr.active = false)
    (hroom : p.sprFifo.length < 8) :
    (∀ n ≤ 7, (Ppu.fetchAction^[n] p).bg = p.bg ∧ (Ppu.fetchAction^[n] p).bgFifo = p.bgFifo ∧
      ((Ppu.fetchAction^[n] p).spr.active = true ↔ 1 ≤ n ∧ n ≤ 6)) ∧ (Ppu.fetchAction^[7] p).sprFifo.length = 8 := by
  obtain ⟨low, high, hpush⟩ := (h.iterate (n := 5) (by decide)).push
  have hend := (Function.iterate_succ_apply' Ppu.fetchAction 6 p).trans hpush
  refine ⟨fun n hn => ?_, ?_⟩
  · obtain rfl | rfl | ⟨k, hk, rfl⟩ : n = 0 ∨ n = 7 ∨ ∃ k ≤ 5, n = k + 1 := by
      obtain _ | k := n
      · exact .inl rfl
      · by_cases hk : k ≤ 5
        · exact .inr (.inr ⟨k, hk, rfl⟩)
        · exact .inr (.inl (by omega))
    · simp [hidle]
    · rw [hend]
      simp
    · obtain ⟨_, _, hq⟩ := h.iterate hk
      rw [hq]
      exact ⟨rfl, rfl, iff_of_true rfl (by omega)⟩
  · rw [hend, length_mergeSprites, length_spriteRow]
    omega

theorem Ppu.spriteAction_getTile {p : Ppu} (h : p.spr.state = .getTile) (e : OamEntry) :
    p.spriteAction e = { p with spr := { p.spr with state := .getTileDataLow, timer := 0 } } := by
  rw [Ppu.spriteAction, h]

theorem Ppu.spriteAction_getLow {p : Ppu} (h : p.spr.state = .getTileDataLow) (e : OamEntry) :
    p.spriteAction e =
      { p with spr := { p.spr with dataLow := memGet p.vram (p.spriteRowOffset e), state := .getTileDataHigh, timer := 0 } } := by
  rw [Ppu.spriteAction, h]
  rfl

theorem Ppu.spriteAction_getHigh {p : Ppu} (h : p.spr.state = .getTileDataHigh) (e : OamEntry) :
    p.spriteAction e =
      { p with spr := { p.spr with dataHigh := memGet p.vram (p.spriteRowOffset e + 1), state := .push, timer := 0 } } := by
  rw [Ppu.spriteAction, h]
  rfl

theorem Ppu.spriteAction_push {p : Ppu} (h : p.spr.state = .push) (hfifo : p.sprFifo.length ≤ 8) (e : OamEntry) :
    p.spriteAction e =
      { p with spr := { p.spr with active := false },
               sprFifo := (List.range 8).map fun i =>
                 mergedPixel p.sprFifo[i]? (spritePixel p.spr.dataLow p.spr.dataHigh e i) } := by
  rw [Ppu.spriteAction, h, ← mergeSprites_map_range _ _ hfifo, ← spriteRow_eq]

/-- Settles O51: a due entry starts a fetch, which runs through `FetchesSprite` to its Push; an active one acts by its state. -/
theorem spriteFetch : Obligations.SpriteFetch := by
  unfold Obligations.SpriteFetch
  intro p e f due h row0 row t pixel
  have hoffset : p.spriteRowOffset e = 16 * t + 2 * row := p.spriteRowOffset_eq e
  refine ⟨fun ⟨hidle, hroom, hdue⟩ => ⟨_, _, Ppu.fetchAction_startsSprite hidle hroom hdue⟩,
    fun ⟨hidle, hroom, hdue⟩ => Ppu.FetchesSprite.whole ⟨_, _, Ppu.fetchAction_startsSprite hidle hroom hdue⟩ hidle hroom,
    fun hidle hnone => Ppu.fetchAction_of_none hidle (hnone.imp_right fun hnot => ?_), fun hactive he => ?_,
    fun hactive => if_pos hactive⟩
  · simpa [Ppu.spriteDue] using hnot
  · rw [Ppu.fetchAction_of_active hactive]
    refine ⟨Ppu.spriteStep_first he, fun ht => ?_, fun hs hfifo => ?_⟩
    · rw [Ppu.spriteStep_action he (.inr ht), ← hoffset]
      exact ⟨fun hs => Ppu.spriteAction_getTile hs e, fun hs => Ppu.spriteAction_getLow hs e,
        fun hs => Ppu.spriteAction_getHigh hs e⟩
    · rw [Ppu.spriteStep_action he (.inl hs)]
      exact Ppu.spriteAction_push hs hfifo e

end Sys2Proof.Machine
end

section
/-! SUPPORT. The mode sequencer (spec/62_ppu.md R520 to R534), tick by tick: when each mode, line and frame ends (O46), and the OAM
search as a whole (R521, R522, R523; O45). -/

namespace Sys2Proof.Machine

/-! ### One tick -/

/-- The PPU with the T-cycle counted that a tick begins with (R520). -/
def Ppu.counted (p : Ppu) : Ppu :=
  { p with lineCycles := p.lineCycles + 1 }

theorem Ppu.sequencerTick_of_off {p : Ppu} (h : p.lcdc.getLsbD 7 = false) : p.sequencerTick = (p, 0) :=
  if_neg (Bool.eq_false_iff.1 h)

/-- With the LCD on a tick is its mode's (R520). -/
theorem Ppu.sequencerTick_of_on {p : Ppu} (h : p.lcdc.getLsbD 7 = true) :
    p.sequencerTick =
      match p.mode with
      | .oamSearch => p.counted.oamSearchTick
      | .drawing => p.counted.drawingTick
      | .hblank => p.counted.hblankTick
      | .vblank => p.counted.vblankTick :=
  if_pos h

theorem Ppu.sequencerTick_search {p : Ppu} (hon : p.lcdc.getLsbD 7 = true) (hm : p.mode = .oamSearch) :
    p.sequencerTick = p.counted.oamSearchTick := by
  rw [Ppu.sequencerTick_of_on hon, hm]

theorem Ppu.sequencerTick_drawing {p : Ppu} (hon : p.lcdc.getLsbD 7 = true) (hm : p.mode = .drawing) :
    p.sequencerTick = p.counted.drawingTick := by
  rw [Ppu.sequencerTick_of_on hon, hm]

theorem Ppu.sequencerTick_hblank {p : Ppu} (hon : p.lcdc.getLsbD 7 = true) (hm : p.mode = .hblank) :
    p.sequencerTick = p.counted.hblankTick := by
  rw [Ppu.sequencerTick_of_on hon, hm]

theorem Ppu.sequencerTick_vblank {p : Ppu} (hon : p.lcdc.getLsbD 7 = true) (hm : p.mode = .vblank) :
    p.sequencerTick = p.counted.vblankTick := by
  rw [Ppu.sequencerTick_of_on hon, hm]

/-! ### OAMSearch and Drawing -/

/-- What a T-cycle of OAMSearch does before it may end the search: an entry evaluated on every second one (R521). -/
def Ppu.searched (p : Ppu) : Ppu :=
  if p.lineCycles % 2 = 0 then p.evalEntry (p.lineCycles / 2 - 1) else p

/-- An evaluation touches the OAM buffer only (R522). -/
theorem Ppu.searched_eq (p : Ppu) :
    p.searched = { p with oamBuffer := p.searched.oamBuffer, oamCount := p.searched.oamCount } := by
  unfold Ppu.searched Ppu.evalEntry
  split
  · dsimp only
    split <;> rfl
  · rfl

@[simp] theorem Ppu.searched_mode (p : Ppu) : p.searched.mode = p.mode := by rw [p.searched_eq]
@[simp] theorem Ppu.searched_ly (p : Ppu) : p.searched.ly = p.ly := by rw [p.searched_eq]
@[simp] theorem Ppu.searched_lineCycles (p : Ppu) : p.searched.lineCycles = p.lineCycles := by rw [p.searched_eq]

theorem Ppu.oamSearchTick_of_ne {p : Ppu} (h : p.lineCycles ≠ 80) : p.oamSearchTick = (p.searched, 0) :=
  if_neg (c := p.searched.lineCycles = 80) (by rwa [p.searched_lineCycles])

theorem Ppu.oamSearchTick_of_eq {p : Ppu} (h : p.lineCycles = 80) : p.oamSearchTick = p.searched.endOamSearch :=
  if_pos (c := p.searched.lineCycles = 80) (by rwa [p.searched_lineCycles])

theorem Ppu.drawingTick_of_ne {p : Ppu} (h : p.drawTick.pixelX ≠ 160) : p.drawingTick = (p.drawTick, 0) :=
  if_neg h

theorem Ppu.drawingTick_of_eq {p : Ppu} (h : p.drawTick.pixelX = 160) :
    p.drawingTick = p.drawTick.resetPipeline.enterMode .hblank :=
  if_pos h

/-! ### The ends of lines and of the frame -/

/-- The counter of frames and the compare of LY do not touch (R524, R529). -/
theorem Ppu.setLy_withFrameCounter (p : Ppu) (n : Nat) (v : Byte) :
    Ppu.setLy { p with frameCounter := n } v = ({ (p.setLy v).1 with frameCounter := n }, (p.setLy v).2) := by
  unfold Ppu.setLy Ppu.compareLyc
  dsimp only
  split <;> rfl

theorem Ppu.hblankTick_of_lt {p : Ppu} (h : p.lineCycles < 456) : p.hblankTick = (p, 0) :=
  if_neg (Nat.not_le.2 h)

theorem Ppu.hblankTick_of_le {p : Ppu} (h : 456 ≤ p.lineCycles) : p.hblankTick = p.endVisibleLine :=
  if_pos h

theorem Ppu.vblankTick_of_lt {p : Ppu} (h : p.lineCycles < 456) : p.vblankTick = (p, 0) :=
  if_neg (Nat.not_le.2 h)

theorem Ppu.vblankTick_of_line {p : Ppu} (h : 456 ≤ p.lineCycles) (hl : p.ly.toNat < 153) :
    p.vblankTick = Ppu.setLy { p with lineCycles := 0 } (p.ly + 1) :=
  (if_pos h).trans (if_pos hl)

theorem Ppu.vblankTick_of_frame {p : Ppu} (h : 456 ≤ p.lineCycles) (hl : ¬ p.ly.toNat < 153) :
    p.vblankTick = Ppu.endFrame { p with lineCycles := 0 } :=
  (if_pos h).trans (if_neg hl)

theorem Ppu.endVisibleLine_of_last {p : Ppu} (h : p.ly + 1 = 144) :
    p.endVisibleLine =
      ((Ppu.setLy { p with lineCycles := 0 } 144).1.enterVblank.1,
        (Ppu.setLy { p with lineCycles := 0 } 144).2 ||| (Ppu.setLy { p with lineCycles := 0 } 144).1.enterVblank.2) := by
  have hly : (Ppu.setLy { p with lineCycles := 0 } 144).1.ly = 144 := by rw [Ppu.setLy_fst]
  rw [Ppu.endVisibleLine, h, if_pos hly]

theorem Ppu.endVisibleLine_of_not_last {p : Ppu} (h : p.ly + 1 ≠ 144) :
    p.endVisibleLine =
      ((Ppu.setLy { p with lineCycles := 0 } (p.ly + 1)).1.startLine.1,
        (Ppu.setLy { p with lineCycles := 0 } (p.ly + 1)).2 |||
          (Ppu.setLy { p with lineCycles := 0 } (p.ly + 1)).1.startLine.2) := by
  have hly : (Ppu.setLy { p with lineCycles := 0 } (p.ly + 1)).1.ly ≠ 144 := by rwa [Ppu.setLy_fst]
  rw [Ppu.endVisibleLine, if_neg hly]

theorem Ppu.endFrame_eq (p : Ppu) :
    p.endFrame =
      ({ (p.setLy 0).1.startLine.1 with frameCounter := p.frameCounter + 1 },
        (p.setLy 0).2 ||| (p.setLy 0).1.startLine.2) := by
  rw [Ppu.endFrame, Ppu.setLy_withFrameCounter]
  rfl

theorem toNat_succ_byte {v : Byte} (h : v.toNat < 255) : (v + 1).toNat = v.toNat + 1 := by
  have h1 : (1 : Byte).toNat = 1 := rfl
  rw [BitVec.toNat_add]
  omega

/-- Settles O46: mode by mode, the tick counts on or ends the mode, the line or the frame. -/
theorem modeOrder : Obligations.ModeOrder := by
  unfold Obligations.ModeOrder
  intro p hinv c r entry line search
  have hentry : r.searched = entry := rfl
  have hvisible := hinv.ly_of_visible
  obtain ⟨-, hly, hvblank, hsearch, hdrawing, -⟩ := hinv
  refine ⟨Ppu.sequencerTick_of_off, fun hon => ⟨fun hm => ⟨fun hc => ?_, fun hc => ?_⟩, fun hm => ?_,
    fun hm => ⟨fun hc => ?_, fun hc => ⟨fun hlast => ?_, fun hlast => ?_⟩⟩,
    fun hm => ⟨fun hc => ?_, fun hc => ⟨fun hlast => ?_, fun hlast => ?_⟩⟩⟩⟩
  · have htick := (Ppu.sequencerTick_search hon hm).trans (Ppu.oamSearchTick_of_ne (p := r) (Nat.ne_of_lt hc))
    exact ⟨htick, (r.searched_mode).trans hm, r.searched_ly, r.searched_lineCycles⟩
  · have hend : r.lineCycles = 80 := Nat.le_antisymm (hsearch hm) hc
    have htick := (Ppu.sequencerTick_search hon hm).trans (Ppu.oamSearchTick_of_eq hend)
    refine ⟨htick, ?_⟩
    rw [htick]
    exact ⟨rfl, r.searched_ly, r.searched_lineCycles.trans hend⟩
  · have htick := Ppu.sequencerTick_drawing hon hm
    refine ⟨?_, ?_, ?_, fun hne => htick.trans (Ppu.drawingTick_of_ne (p := r) hne),
      fun heq => htick.trans (Ppu.drawingTick_of_eq (p := r) heq)⟩
    · rw [r.drawTick_eq]
      exact hm
    · rw [r.drawTick_eq]
    · rw [r.drawTick_eq]
  · exact (Ppu.sequencerTick_hblank hon hm).trans (Ppu.hblankTick_of_lt hc)
  · have htick := ((Ppu.sequencerTick_hblank hon hm).trans (Ppu.hblankTick_of_le hc)).trans
      (Ppu.endVisibleLine_of_last (p := r) hlast)
    refine ⟨htick, ?_⟩
    rw [htick, Ppu.setLy_fst]
    exact ⟨rfl, rfl, rfl⟩
  · have htick := ((Ppu.sequencerTick_hblank hon hm).trans (Ppu.hblankTick_of_le hc)).trans
      (Ppu.endVisibleLine_of_not_last (p := r) hlast)
    have hlt := hvisible (by simp [hm])
    have hnext : (p.ly + 1).toNat = p.ly.toNat + 1 := toNat_succ_byte (by omega)
    have hne : (p.ly + 1).toNat ≠ 144 := fun h => hlast (BitVec.eq_of_toNat_eq h)
    refine ⟨htick, ?_⟩
    rw [htick, Ppu.setLy_fst]
    exact ⟨rfl, hnext, show (p.ly + 1).toNat ≤ 143 by omega, rfl⟩
  · exact (Ppu.sequencerTick_vblank hon hm).trans (Ppu.vblankTick_of_lt hc)
  · have hne : p.ly.toNat ≠ 153 := fun h => hlast (BitVec.eq_of_toNat_eq h)
    have hlt : p.ly.toNat < 153 := by omega
    have htick := (Ppu.sequencerTick_vblank hon hm).trans (Ppu.vblankTick_of_line (p := r) hc hlt)
    have hnext : (p.ly + 1).toNat = p.ly.toNat + 1 := toNat_succ_byte (by omega)
    refine ⟨htick, ?_⟩
    rw [htick, Ppu.setLy_fst]
    exact ⟨hm, hnext, show (p.ly + 1).toNat ≤ 153 by omega, rfl⟩
  · have hnlt : ¬ p.ly.toNat < 153 := by rw [hlast]; decide
    have htick := ((Ppu.sequencerTick_vblank hon hm).trans (Ppu.vblankTick_of_frame (p := r) hc hnlt)).trans
      (Ppu.endFrame_eq _)
    refine ⟨htick, ?_⟩
    rw [htick, Ppu.setLy_fst]
    exact ⟨rfl, rfl, rfl⟩

/-! ### The whole OAM search -/

/-- The qualification of an entry but for the room in the buffer (R522). -/
def Ppu.onLine (p : Ppu) (e : OamEntry) : Bool :=
  decide (0 < e.x.toNat ∧ e.y.toNat ≤ p.ly.toNat + 16 ∧ p.ly.toNat + 16 < e.y.toNat + p.objHeight)

theorem Ppu.qualifies_eq (p : Ppu) (e : OamEntry) : p.qualifies e = (p.onLine e && decide (p.oamCount < 10)) := by
  simp only [Ppu.qualifies, Ppu.onLine, Bool.decide_and, Bool.and_assoc]
  rfl

/-- Of the first `k` entries the first ten on the line. -/
def Ppu.selected (p : Ppu) (k : Nat) : List OamEntry :=
  (((List.range k).map p.oamEntry).filter p.onLine).take 10

/-- One more entry is selected when it is on the line and there is room. -/
theorem Ppu.selected_succ (p : Ppu) (k : Nat) :
    p.selected (k + 1) =
      if (p.onLine (p.oamEntry k) && decide ((p.selected k).length < 10)) = true then p.selected k ++ [p.oamEntry k]
      else p.selected k := by
  unfold Ppu.selected
  rw [List.range_succ, List.map_append, List.filter_append, List.take_append, List.length_take]
  generalize ((List.range k).map p.oamEntry).filter p.onLine = found
  cases hline : p.onLine (p.oamEntry k) with
  | false => simp [hline]
  | true =>
    by_cases hroom : found.length < 10
    · obtain ⟨m, hm⟩ : ∃ m, 10 - found.length = m + 1 := ⟨9 - found.length, by omega⟩
      simp [hline, hroom, hm]
    · have hnone : 10 - found.length = 0 := by omega
      simp [hroom, hnone]

theorem Ppu.evalEntry_of_qualifies {p : Ppu} {i : Nat} (h : p.qualifies (p.oamEntry i) = true) :
    p.evalEntry i = { p with oamBuffer := p.oamBuffer ++ [p.oamEntry i], oamCount := p.oamCount + 1 } :=
  if_pos h

theorem Ppu.evalEntry_of_not_qualifies {p : Ppu} {i : Nat} (h : p.qualifies (p.oamEntry i) = false) : p.evalEntry i = p :=
  if_neg (Bool.eq_false_iff.1 h)

/-- `p` at T-cycle `c` of its line with the entries `es` selected. -/
def Ppu.withBuffer (p : Ppu) (c : Nat) (es : List OamEntry) : Ppu :=
  { p with lineCycles := c, oamBuffer := es, oamCount := es.length }

/-- The evaluation of entry `k` after those before it (R522). -/
theorem Ppu.evalEntry_selected (p : Ppu) (c k : Nat) :
    (p.withBuffer c (p.selected k)).evalEntry k = p.withBuffer c (p.selected (k + 1)) := by
  have hqualifies : (p.withBuffer c (p.selected k)).qualifies (p.oamEntry k) =
      (p.onLine (p.oamEntry k) && decide ((p.selected k).length < 10)) := Ppu.qualifies_eq _ _
  rw [p.selected_succ]
  cases hq : p.onLine (p.oamEntry k) && decide ((p.selected k).length < 10) with
  | true =>
    rw [if_pos rfl, Ppu.evalEntry_of_qualifies (hqualifies.trans hq)]
    simp only [Ppu.withBuffer, List.length_append]
    rfl
  | false =>
    rw [if_neg Bool.false_ne_true, Ppu.evalEntry_of_not_qualifies (hqualifies.trans hq)]

/-- `p` after `n` T-cycles of a search begun with an empty buffer. -/
def Ppu.searching (p : Ppu) (n : Nat) : Ppu :=
  p.withBuffer n (p.selected (n / 2))

theorem Ppu.searched_searching (p : Ppu) (n : Nat) : (p.searching n).counted.searched = p.searching (n + 1) := by
  show (p.withBuffer (n + 1) (p.selected (n / 2))).searched = p.withBuffer (n + 1) (p.selected ((n + 1) / 2))
  by_cases heven : (n + 1) % 2 = 0
  · have hk : (n + 1) / 2 - 1 = n / 2 := by omega
    have hnext : (n + 1) / 2 = n / 2 + 1 := by omega
    rw [hnext, ← p.evalEntry_selected, ← hk]
    exact if_pos heven
  · have hsame : (n + 1) / 2 = n / 2 := by omega
    rw [hsame]
    exact if_neg heven

/-- `p` at the start of a line's search with the LCD on (R526, R529). -/
structure Ppu.SearchStart (p : Ppu) : Prop where
  on : p.lcdc.getLsbD 7 = true
  mode : p.mode = .oamSearch
  lineCycles : p.lineCycles = 0
  oamBuffer : p.oamBuffer = []
  oamCount : p.oamCount = 0

theorem Ppu.SearchStart.searching_zero {p : Ppu} (h : p.SearchStart) : p.searching 0 = p := by
  have hstart : p.searching 0 = { p with lineCycles := 0, oamBuffer := [], oamCount := 0 } := rfl
  rw [hstart]
  obtain ⟨-, -, hc, hb, hn⟩ := h
  cases p
  cases hc
  cases hb
  cases hn
  rfl

theorem Ppu.SearchStart.tick_searching {p : Ppu} (h : p.SearchStart) (n : Nat) :
    (p.searching n).sequencerTick = (p.searching n).counted.oamSearchTick :=
  Ppu.sequencerTick_search (p := p.searching n) h.on h.mode

theorem Ppu.SearchStart.iterate {p : Ppu} (h : p.SearchStart) {n : Nat} (hn : n < 80) :
    (fun q : Ppu => q.sequencerTick.1)^[n] p = p.searching n := by
  induction n with
  | zero => exact h.searching_zero.symm
  | succ n ih =>
    rw [Function.iterate_succ_apply', ih (Nat.lt_of_succ_lt hn), h.tick_searching, Ppu.oamSearchTick_of_ne (Nat.ne_of_lt hn)]
    exact p.searched_searching n

theorem Ppu.SearchStart.iterate_end {p : Ppu} (h : p.SearchStart) :
    (fun q : Ppu => q.sequencerTick.1)^[80] p = (p.searching 80).endOamSearch.1 := by
  rw [Function.iterate_succ_apply', h.iterate (by decide), h.tick_searching, Ppu.oamSearchTick_of_eq rfl,
    p.searched_searching]

/-! ### The sort -/

/-- R523's order: by x, and at equal x as in OAM. -/
def SpriteBefore (e f : OamEntry) : Prop :=
  e.x.toNat < f.x.toNat ∨ (e.x = f.x ∧ e.index < f.index)

/-- The insertion is the library's. -/
theorem insertByX_eq_orderedInsert (e : OamEntry) (es : List OamEntry) :
    insertByX e es = List.orderedInsert (fun e f : OamEntry => e.x.toNat ≤ f.x.toNat) e es := by
  induction es with
  | nil => rfl
  | cons f fs ih => rw [insertByX, List.orderedInsert, ih]

theorem mem_insertByX {d e : OamEntry} {es : List OamEntry} : d ∈ insertByX e es ↔ d = e ∨ d ∈ es := by
  rw [insertByX_eq_orderedInsert, List.mem_orderedInsert]

/-- The sort is the library's insertion sort, so it permutes. -/
theorem sortByX_eq_insertionSort (es : List OamEntry) :
    sortByX es = es.insertionSort fun e f => e.x.toNat ≤ f.x.toNat := by
  induction es with
  | nil => rfl
  | cons e es ih => rw [sortByX, ih, insertByX_eq_orderedInsert, List.insertionSort_cons]

theorem sortByX_perm (es : List OamEntry) : (sortByX es).Perm es := by
  rw [sortByX_eq_insertionSort]
  exact List.perm_insertionSort _ es

/-- An entry inserted before later ones of its own x keeps the order. -/
theorem pairwise_insertByX {e : OamEntry} {es : List OamEntry} (h : es.Pairwise SpriteBefore)
    (hfirst : ∀ f ∈ es, e.index < f.index) : (insertByX e es).Pairwise SpriteBefore := by
  induction es with
  | nil => exact List.pairwise_singleton _ e
  | cons f fs ih =>
    obtain ⟨hf, hfs⟩ := List.pairwise_cons.1 h
    unfold insertByX
    split
    · rename_i hle
      refine List.pairwise_cons.2 ⟨fun g hg => ?_, h⟩
      have hle' : e.x.toNat ≤ g.x.toNat := by
        obtain rfl | hg := List.mem_cons.1 hg
        · exact hle
        · obtain hlt | ⟨heq, -⟩ := hf g hg
          · omega
          · rwa [← heq]
      obtain hlt | heq := Nat.lt_or_eq_of_le hle'
      · exact .inl hlt
      · exact .inr ⟨BitVec.eq_of_toNat_eq heq, hfirst g hg⟩
    · rename_i hgt
      refine List.pairwise_cons.2 ⟨fun g hg => ?_, ih hfs fun g hg => hfirst g (List.mem_cons_of_mem _ hg)⟩
      obtain rfl | hg := mem_insertByX.1 hg
      · exact .inl (Nat.lt_of_not_le hgt)
      · exact hf g hg

theorem pairwise_sortByX {es : List OamEntry} (h : es.Pairwise fun e f => e.index < f.index) :
    (sortByX es).Pairwise SpriteBefore := by
  induction es with
  | nil => exact List.Pairwise.nil
  | cons e es ih =>
    obtain ⟨he, hes⟩ := List.pairwise_cons.1 h
    exact pairwise_insertByX (ih hes) fun f hf => he f ((sortByX_perm es).mem_iff.1 hf)

/-- The selected entries are in OAM order. -/
theorem Ppu.pairwise_selected (p : Ppu) (k : Nat) : (p.selected k).Pairwise fun e f => e.index < f.index := by
  have hrange : ((List.range k).map p.oamEntry).Pairwise fun e f => e.index < f.index :=
    List.pairwise_map.2 List.pairwise_lt_range
  exact (hrange.filter _).take

/-- Settles O45: `searching` up to T-cycle 79, and the sort of what is selected at the 80th. -/
theorem oamSearch : Obligations.OamSearch := by
  unfold Obligations.OamSearch
  intro p hon hm hc hb hn run h chosen
  have hstart : p.SearchStart := ⟨hon, hm, hc, hb, hn⟩
  refine ⟨fun n hlt => ?_, ?_⟩
  · have hrun : run n = p.searching n := hstart.iterate hlt
    rw [hrun]
    exact ⟨hm, rfl⟩
  · have hrun : run 80 = (p.searching 80).endOamSearch.1 := hstart.iterate_end
    rw [hrun]
    exact ⟨rfl, rfl, sortByX_perm _, pairwise_sortByX (p.pairwise_selected 40)⟩

end Sys2Proof.Machine
end

section
/-! SUPPORT. The length of Drawing with no sprite and no window (spec/63_ppu_pipeline.md R596): twelve T-cycles for the tile the
double-fetch bug discards and the next, then one background pixel a T-cycle. O49. -/

namespace Sys2Proof.Machine

/-! ### The background fetcher's round -/

/-- The fetcher's state and timer at place `m` of its round of eight T-cycles: Push, then two T-cycles for each of the three
states, then a Push that finds the FIFO still filled (R562, R566). -/
def bgPhase (m : Nat) : FetchState × Fin 2 :=
  [(FetchState.push, (0 : Fin 2)), (.getTile, 0), (.getTile, 1), (.getTileDataLow, 0), (.getTileDataLow, 1),
    (.getTileDataHigh, 0), (.getTileDataHigh, 1)].getD m (.push, 0)

/-- The background fetcher of `q` is at place `m` of its round. -/
def Ppu.BgAt (q : Ppu) (m : Nat) : Prop :=
  q.bg.state = (bgPhase m).1 ∧ q.bg.timer = (bgPhase m).2

/-- From GetTile to the first T-cycle of GetTileDataHigh a T-cycle moves the fetcher on by one place. -/
theorem Ppu.BgAt.bgStep {q : Ppu} {m : Nat} (h : q.BgAt m) (h1 : 1 ≤ m) (h5 : m ≤ 5) :
    q.bgStep.BgAt (m + 1) ∧ q.bgStep.bg.bugPending = q.bg.bugPending ∧ q.bgStep.bgFifo = q.bgFifo := by
  obtain ⟨hs, ht⟩ := h
  interval_cases m
  · rw [Ppu.bgStep_first (by simp [hs, bgPhase]) ht]
    exact ⟨⟨hs, rfl⟩, rfl, rfl⟩
  · rw [Ppu.bgStep_getTile hs ht]
    exact ⟨⟨rfl, rfl⟩, rfl, rfl⟩
  · rw [Ppu.bgStep_first (by simp [hs, bgPhase]) ht]
    exact ⟨⟨hs, rfl⟩, rfl, rfl⟩
  · rw [Ppu.bgStep_getLow hs ht]
    exact ⟨⟨rfl, rfl⟩, rfl, rfl⟩
  · rw [Ppu.bgStep_first (by simp [hs, bgPhase]) ht]
    exact ⟨⟨hs, rfl⟩, rfl, rfl⟩

/-- The end of a tile's fetch: back to GetTile with the double-fetch bug pending, else on to Push (R565). -/
theorem Ppu.BgAt.bgStep_high {q : Ppu} (h : q.BgAt 6) :
    q.bgStep.BgAt (if q.bg.bugPending then 1 else 7) ∧ q.bgStep.bg.bugPending = false ∧ q.bgStep.bgFifo = q.bgFifo := by
  obtain ⟨hs, ht⟩ := h
  rw [Ppu.bgStep_getHigh hs ht]
  unfold Ppu.bgGetHigh Ppu.BgAt
  cases q.bg.bugPending <;> exact ⟨⟨rfl, rfl⟩, rfl, rfl⟩

/-- A Push that fills the empty FIFO (R566). -/
theorem Ppu.BgAt.bgStep_push {q : Ppu} (h : q.BgAt 0) (hfifo : q.bgFifo = []) :
    q.bgStep.BgAt 1 ∧ q.bgStep.bg.bugPending = q.bg.bugPending ∧ q.bgStep.bgFifo.length = 8 := by
  obtain ⟨hs, ht⟩ := h
  rw [Ppu.bgStep_push_empty hs hfifo]
  exact ⟨⟨rfl, ht⟩, rfl, rfl⟩

/-! ### What the output counts -/

theorem Ppu.outputPixel_of_nil {p : Ppu} (h : p.bgFifo = []) : p.outputPixel = p := by
  rw [Ppu.outputPixel, h]

/-- A background pixel leaves the FIFO: as a discard, or at the next column (R580, R581). -/
theorem Ppu.outputPixel_counts {p : Ppu} (h : p.bgFifo ≠ []) :
    p.outputPixel.bgFifo.length = p.bgFifo.length - 1 ∧ p.outputPixel.discard = p.discard - 1 ∧
      p.outputPixel.pixelX = if 0 < p.discard then p.pixelX else p.pixelX + 1 := by
  obtain ⟨b, rest, hfifo⟩ := List.exists_cons_of_ne_nil h
  by_cases hd : 0 < p.discard
  · rw [Ppu.outputPixel_of_discard hfifo hd, if_pos hd, hfifo]
    exact ⟨rfl, rfl, rfl⟩
  · have hzero : p.discard = 0 := by omega
    rw [Ppu.outputPixel_of_emit hfifo hzero, if_neg hd, hfifo]
    exact ⟨rfl, show p.discard = p.discard - 1 by omega, rfl⟩

/-! ### A Drawing T-cycle with no sprite and no window -/

/-- Drawing, and nothing but the background: the LCD on, the window disabled, no sprite selected, none being fetched. -/
structure Ppu.BackgroundOnly (q : Ppu) : Prop where
  on : q.lcdc.getLsbD 7 = true
  mode : q.mode = .drawing
  noWindow : q.lcdc.getLsbD 5 = false
  noSprite : q.oamBuffer = []
  idle : q.spr.active = false

theorem Ppu.BackgroundOnly.drawTick_eq {q : Ppu} (h : q.BackgroundOnly) :
    q.drawTick = q.windowLatch.bgStep.outputPixel := by
  have hcheck : q.windowCheck = q.windowLatch := Ppu.windowCheck_of_not_due fun hdue => by
    obtain ⟨-, hwin, -⟩ := q.windowDue_latch_iff.1 hdue
    rw [h.noWindow] at hwin
    cases hwin
  have hnone : q.windowLatch.spriteDue = none := by
    show q.oamBuffer.find? _ = none
    rw [h.noSprite]
    rfl
  have hfetch : q.windowLatch.fetchAction = q.windowLatch.bgStep := Ppu.fetchAction_of_none h.idle (.inr hnone)
  have hidle : q.windowLatch.bgStep.spr.active = false := by
    rw [Ppu.bgStep_eq]
    exact h.idle
  rw [Ppu.drawTick, hcheck, hfetch]
  exact if_neg (Bool.eq_false_iff.1 hidle)

theorem Ppu.BackgroundOnly.drawTick {q : Ppu} (h : q.BackgroundOnly) : q.drawTick.BackgroundOnly := by
  rw [h.drawTick_eq, Ppu.outputPixel_eq, Ppu.bgStep_eq]
  exact ⟨h.on, h.mode, h.noWindow, h.noSprite, h.idle⟩

/-! ### The whole of Drawing -/

/-- The fetcher's place after `n` T-cycles of Drawing: two tiles fetched in twelve, then rounds of eight. -/
def drawPhase (n : Nat) : Nat :=
  if n < 12 then n % 6 + 1 else (n - 12) % 8

/-- `q` after `n` T-cycles of a Drawing that discards `d` pixels: the fetcher's place, the double-fetch bug until the first tile is
fetched, and what has left the FIFO since the twelfth T-cycle, first the discarded pixels and then one a column. -/
structure Ppu.DrawnFor (q : Ppu) (d n : Nat) : Prop where
  background : q.BackgroundOnly
  phase : q.BgAt (drawPhase n)
  bug : q.bg.bugPending = decide (n < 6)
  fifo : q.bgFifo.length = if n < 12 then 0 else (8 - (n - 12) % 8) % 8
  discard : q.discard = d - (n - 12)
  column : q.pixelX = n - 12 - d

/-- The next place of the fetcher. -/
theorem drawPhase_succ (n : Nat) :
    (1 ≤ drawPhase n ∧ drawPhase n ≤ 5 ∧ drawPhase (n + 1) = drawPhase n + 1 ∧ n ≠ 5) ∨
      (drawPhase n = 6 ∧ (n = 5 ∨ n = 11 ∨ (12 ≤ n ∧ (n - 12) % 8 = 6))) ∨
      (12 ≤ n ∧ (n - 12) % 8 = 7) ∨ (12 ≤ n ∧ (n - 12) % 8 = 0) := by
  unfold drawPhase
  by_cases h : n < 12
  · rw [if_pos h]
    by_cases h' : n + 1 < 12
    · rw [if_pos h']
      omega
    · rw [if_neg h']
      omega
  · rw [if_neg h, if_neg (by omega)]
    omega

theorem drawPhase_of_le {n : Nat} (h : 12 ≤ n) : drawPhase n = (n - 12) % 8 :=
  if_neg (Nat.not_lt.2 h)

/-- The fetcher's part of the next T-cycle. -/
theorem Ppu.DrawnFor.bgStep {q : Ppu} {d n : Nat} (h : q.DrawnFor d n) :
    q.bgStep.BgAt (drawPhase (n + 1)) ∧ q.bgStep.bg.bugPending = decide (n + 1 < 6) ∧
      q.bgStep.bgFifo.length = if n < 12 then 0 else 8 - (n - 12) % 8 := by
  obtain ⟨-, hphase, hbug, hfifo, -, -⟩ := h
  obtain ⟨h1, h5, hnext, hne⟩ | ⟨h6, hn⟩ | ⟨hn, h7⟩ | ⟨hn, h0⟩ := drawPhase_succ n
  · obtain ⟨hat, hbug', hfifo'⟩ := hphase.bgStep h1 h5
    refine ⟨hnext ▸ hat, hbug'.trans (hbug.trans (decide_eq_decide.2 (by omega))), ?_⟩
    rw [hfifo', hfifo]
    by_cases hn : n < 12
    · rw [if_pos hn, if_pos hn]
    · rw [drawPhase_of_le (Nat.not_lt.1 hn)] at h1
      rw [if_neg hn, if_neg hn]
      omega
  · rw [h6] at hphase
    obtain ⟨hat, hbug', hfifo'⟩ := hphase.bgStep_high
    rw [hbug] at hat
    rw [hfifo', hfifo, hbug']
    obtain rfl | rfl | ⟨hn, hm⟩ := hn
    · exact ⟨hat, rfl, rfl⟩
    · exact ⟨hat, rfl, rfl⟩
    · have hnext : drawPhase (n + 1) = 7 := by rw [drawPhase_of_le (by omega)]; omega
      rw [decide_eq_false (by omega)] at hat
      rw [hnext, hm, if_neg (Nat.not_lt.2 hn)]
      exact ⟨hat, (decide_eq_false (by omega)).symm, rfl⟩
  · rw [drawPhase_of_le hn, h7] at hphase
    have hlength : q.bgFifo.length = 1 := by rw [hfifo, h7, if_neg (by omega)]
    have hfull : q.bgFifo ≠ [] := fun hnil => by simp [hnil] at hlength
    have hnext : drawPhase (n + 1) = 0 := by rw [drawPhase_of_le (by omega)]; omega
    rw [Ppu.bgStep_push_full hphase.1 hfull, hnext, hbug, hlength, h7, if_neg (by omega)]
    exact ⟨hphase, decide_eq_decide.2 (by omega), rfl⟩
  · rw [drawPhase_of_le hn, h0] at hphase
    have hempty : q.bgFifo = [] := List.length_eq_zero_iff.1 (by rw [hfifo, h0, if_neg (by omega)])
    have hnext : drawPhase (n + 1) = 1 := by rw [drawPhase_of_le (by omega)]; omega
    obtain ⟨hat, hbug', hfifo'⟩ := hphase.bgStep_push hempty
    rw [hnext, hbug', hbug, hfifo', h0, if_neg (by omega)]
    exact ⟨hat, decide_eq_decide.2 (by omega), rfl⟩

theorem Ppu.DrawnFor.windowLatch {q : Ppu} {d n : Nat} (h : q.DrawnFor d n) : q.windowLatch.DrawnFor d n := by
  obtain ⟨⟨hon, hm, hwin, hspr, hidle⟩, hphase, hbug, hfifo, hdiscard, hcolumn⟩ := h
  exact ⟨⟨hon, hm, hwin, hspr, hidle⟩, hphase, hbug, hfifo, hdiscard, hcolumn⟩

theorem Ppu.DrawnFor.counted {q : Ppu} {d n : Nat} (h : q.DrawnFor d n) : q.counted.DrawnFor d n := by
  obtain ⟨⟨hon, hm, hwin, hspr, hidle⟩, hphase, hbug, hfifo, hdiscard, hcolumn⟩ := h
  exact ⟨⟨hon, hm, hwin, hspr, hidle⟩, hphase, hbug, hfifo, hdiscard, hcolumn⟩

theorem Ppu.DrawnFor.drawTick {q : Ppu} {d n : Nat} (h : q.DrawnFor d n) : q.drawTick.DrawnFor d (n + 1) := by
  obtain ⟨hphase, hbug, hfifo⟩ := h.windowLatch.bgStep
  have hdiscard : q.windowLatch.bgStep.discard = d - (n - 12) := by rw [Ppu.bgStep_eq]; exact h.discard
  have hcolumn : q.windowLatch.bgStep.pixelX = n - 12 - d := by rw [Ppu.bgStep_eq]; exact h.column
  have hbg : q.drawTick.bg = q.windowLatch.bgStep.bg := by rw [h.background.drawTick_eq, Ppu.outputPixel_eq]
  have hback := h.background.drawTick
  rw [h.background.drawTick_eq] at hback hbg ⊢
  generalize q.windowLatch.bgStep = r at *
  by_cases hn : n < 12
  · rw [if_pos hn] at hfifo
    have hsame : r.outputPixel = r := Ppu.outputPixel_of_nil (List.length_eq_zero_iff.1 hfifo)
    rw [hsame] at hback ⊢
    refine ⟨hback, hphase, hbug, ?_, by omega, by omega⟩
    rw [hfifo]
    split <;> omega
  · rw [if_neg hn] at hfifo
    have hfull : r.bgFifo ≠ [] := fun hnil => by rw [hnil, List.length_nil] at hfifo; omega
    obtain ⟨hlength, hdropped, hmoved⟩ := Ppu.outputPixel_counts hfull
    refine ⟨hback, ?_, hbg ▸ hbug, ?_, by omega, ?_⟩
    · unfold Ppu.BgAt
      rw [hbg]
      exact hphase
    · rw [hlength, hfifo, if_neg (by omega)]
      omega
    · rw [hmoved]
      split <;> omega

/-- The pipeline reset starts the count (R521, R560). -/
theorem Ppu.drawnFor_resetPipeline {p : Ppu} (hon : p.lcdc.getLsbD 7 = true) (hm : p.mode = .drawing)
    (hwin : p.lcdc.getLsbD 5 = false) (hspr : p.oamBuffer = []) : p.resetPipeline.DrawnFor (p.scx.toNat % 8) 0 where
  background := ⟨hon, hm, hwin, hspr, rfl⟩
  phase := ⟨rfl, rfl⟩
  bug := rfl
  fifo := rfl
  discard := rfl
  column := (Nat.zero_sub _).symm

/-- A tick of the sequencer: Drawing goes on until the column after it is 160 (R525). -/
theorem Ppu.DrawnFor.sequencerTick {q : Ppu} {d n : Nat} (h : q.DrawnFor d n) :
    (n + 1 - 12 - d ≠ 160 → q.sequencerTick.1.DrawnFor d (n + 1)) ∧
      (n + 1 - 12 - d = 160 → q.sequencerTick.1.mode = .hblank) := by
  have hnext := h.counted.drawTick
  have hcolumn := hnext.column
  have htick : q.sequencerTick = q.counted.drawingTick := Ppu.sequencerTick_drawing h.background.on h.background.mode
  rw [htick]
  refine ⟨fun hne => ?_, fun heq => ?_⟩
  · rwa [Ppu.drawingTick_of_ne fun h160 => hne (hcolumn.symm.trans h160)]
  · rw [Ppu.drawingTick_of_eq (hcolumn.trans heq)]
    rfl

theorem Ppu.DrawnFor.iterate {p : Ppu} {d : Nat} (h : p.DrawnFor d 0) {n : Nat} (hn : n < 172 + d) :
    ((fun q : Ppu => q.sequencerTick.1)^[n] p).DrawnFor d n := by
  induction n with
  | zero => exact h
  | succ n ih =>
    rw [Function.iterate_succ_apply']
    exact (ih (by omega)).sequencerTick.1 (by omega)

/-- Settles O49: the count runs from the reset pipeline to column 160, twelve T-cycles and the discarded pixels late. -/
theorem drawingLength : Obligations.DrawingLength := by
  unfold Obligations.DrawingLength
  intro p hon hwin hm hspr hreset run
  have hstart : p.DrawnFor (p.scx.toNat % 8) 0 := by
    have hdrawn := Ppu.drawnFor_resetPipeline hon hm hwin hspr
    rwa [hreset] at hdrawn
  refine ⟨fun n hn => (hstart.iterate hn).background.mode, ?_⟩
  have hlast := hstart.iterate (n := 171 + p.scx.toNat % 8) (by omega)
  have hsucc : 172 + p.scx.toNat % 8 = 171 + p.scx.toNat % 8 + 1 := by omega
  show ((fun q : Ppu => q.sequencerTick.1)^[172 + p.scx.toNat % 8] p).mode = .hblank
  rw [hsucc, Function.iterate_succ_apply']
  exact hlast.sequencerTick.2 (by omega)

end Sys2Proof.Machine
end

section
/-! SUPPORT. OAM DMA as a whole (spec/62_ppu.md R545 to R548): the engine's registers over its 160 T-cycles, and what OAM holds
after them. O48. -/

namespace Sys2Proof.Machine

/-! ### The start -/

/-- The clamped page as a word (R548). -/
theorem wordOf_page (v : Byte) :
    wordOf (if v.toNat ≤ 0xDF then v else 0xDF) 0 = BitVec.ofNat 16 (256 * min v.toNat 0xDF) := by
  have hv := v.isLt
  have h0 : (0 : Byte).toNat = 0 := rfl
  have hdf : (0xDF : Byte).toNat = 0xDF := rfl
  apply BitVec.eq_of_toNat_eq
  rw [toNat_wordOf, BitVec.toNat_ofNat, h0]
  split
  · omega
  · rw [hdf]
    omega

theorem State.write_dma {s : State} (h : s.ppu.dmaActive = false) (v : Byte) :
    s.write 0xFF46 v = { s with ppu := s.ppu.startDma v } :=
  ((State.write_of_idle h _ v).trans (s.store_ppuReg v (by decide) (by decide))).trans (State.writePpuReg_of_silent rfl)

/-! ### The engine's registers -/

theorem State.ppuTicks_succ (n : Nat) (s : State) : State.ppuTicks (n + 1) s = (State.ppuTicks n s).ppuTick := by
  rw [State.ppuTicks_eq_iterate, State.ppuTicks_eq_iterate, Function.iterate_succ_apply']

theorem State.dma_ppuTick_of_active {s : State} (h : s.ppu.dmaActive = true) :
    s.ppuTick.ppu.dma = (decide (s.ppu.dmaIndex + 1 ≠ 160), s.ppu.dmaSource, s.ppu.dmaIndex + 1) := by
  rw [State.ppuTick_eq_sequencerTick, if_pos h]
  refine (Ppu.dma_sequencerTick _).trans ?_
  rw [s.dmaStep_eq]
  rfl

/-- The `n`-th T-cycle of a transfer leaves the index at `n`, and the transfer running until the 160th (R546). -/
theorem State.dma_ppuTicks {s : State} {source : Word} (h : s.ppu.dma = (true, source, 0)) {n : Nat} (hn : n ≤ 160) :
    (State.ppuTicks n s).ppu.dma = (decide (n ≠ 160), source, n) := by
  induction n with
  | zero => exact h
  | succ n ih =>
    obtain ⟨hactive, hsource, hindex⟩ : _ ∧ _ ∧ _ := by simpa only [Ppu.dma, Prod.mk.injEq] using ih (by omega)
    rw [decide_eq_true (by omega)] at hactive
    rw [State.ppuTicks_succ, State.dma_ppuTick_of_active hactive, hsource, hindex]

/-- No PPU T-cycle starts a transfer. -/
theorem State.dmaActive_ppuTicks {s : State} (h : s.ppu.dmaActive = false) (n : Nat) :
    (State.ppuTicks n s).ppu.dmaActive = false := by
  induction n with
  | zero => exact h
  | succ n ih =>
    rw [State.ppuTicks_succ, State.ppuTick_eq_sequencerTick, ih]
    exact (congrArg Prod.fst (Ppu.dma_sequencerTick _)).trans ih

/-! ### What OAM holds -/

/-- The mode sequencer writes no OAM. -/
theorem Ppu.sequencerTick_oam (p : Ppu) : p.sequencerTick.1.oam = p.oam := by
  cases hon : p.lcdc.getLsbD 7 with
  | false => rw [Ppu.sequencerTick_of_off hon]
  | true =>
    cases hm : p.mode with
    | oamSearch =>
      rw [Ppu.sequencerTick_search hon hm]
      by_cases hend : p.counted.lineCycles = 80
      · rw [Ppu.oamSearchTick_of_eq hend, Ppu.searched_eq]
        rfl
      · rw [Ppu.oamSearchTick_of_ne hend, Ppu.searched_eq]
        rfl
    | drawing =>
      rw [Ppu.sequencerTick_drawing hon hm]
      by_cases hend : p.counted.drawTick.pixelX = 160
      · rw [Ppu.drawingTick_of_eq hend, Ppu.drawTick_eq]
        rfl
      · rw [Ppu.drawingTick_of_ne hend, Ppu.drawTick_eq]
        rfl
    | hblank =>
      rw [Ppu.sequencerTick_hblank hon hm]
      obtain hc | hc := Nat.lt_or_ge p.counted.lineCycles 456
      · rw [Ppu.hblankTick_of_lt hc]
        rfl
      · rw [Ppu.hblankTick_of_le hc]
        by_cases hlast : p.ly + 1 = 144
        · rw [Ppu.endVisibleLine_of_last (p := p.counted) hlast, Ppu.setLy_fst]
          rfl
        · rw [Ppu.endVisibleLine_of_not_last (p := p.counted) hlast, Ppu.setLy_fst]
          rfl
    | vblank =>
      rw [Ppu.sequencerTick_vblank hon hm]
      obtain hc | hc := Nat.lt_or_ge p.counted.lineCycles 456
      · rw [Ppu.vblankTick_of_lt hc]
        rfl
      · by_cases hlast : p.ly.toNat < 153
        · rw [Ppu.vblankTick_of_line (p := p.counted) hc hlast, Ppu.setLy_fst]
          rfl
        · rw [Ppu.vblankTick_of_frame (p := p.counted) hc hlast, Ppu.endFrame_eq, Ppu.setLy_fst]
          rfl

theorem State.oam_ppuTick_of_active {s : State} (h : s.ppu.dmaActive = true) :
    s.ppuTick.ppu.oam = memSet s.ppu.oam s.ppu.dmaIndex (s.busRead true (s.ppu.dmaSource + BitVec.ofNat 16 s.ppu.dmaIndex)) := by
  rw [State.ppuTick_eq_sequencerTick, if_pos h]
  exact Ppu.sequencerTick_oam _

/-- Below 0xE000 and outside VRAM no PPU T-cycle changes what the engine reads. -/
theorem State.busRead_ppuTicks (n : Nat) (s : State) {a : Word} (hlt : a.toNat < 0xE000)
    (hvram : ¬ (0x8000 ≤ a.toNat ∧ a.toNat ≤ 0x9FFF)) : (State.ppuTicks n s).busRead true a = s.busRead true a := by
  rw [State.busRead_dma, State.busRead_dma, State.ppuTicks_eq]
  exact State.AgreesAt.route
    { ppuReg := fun hlo _ => by omega
      oam := fun hlo _ => by omega
      vram := fun hlo hhi => absurd ⟨hlo, hhi⟩ hvram
      iflag := fun ha => by omega }

/-- After `n` T-cycles of a transfer the first `n` bytes of OAM are what the engine's reads gave at the start. -/
theorem State.oam_ppuTicks {s : State} {source : Word} (h : s.ppu.dma = (true, source, 0))
    (hwf : Memory.wf Config.unwritten Config.oamSize s.ppu.oam = true)
    (hread : ∀ n k, k < 160 → (State.ppuTicks n s).busRead true (source + BitVec.ofNat 16 k) =
      s.busRead true (source + BitVec.ofNat 16 k)) {n : Nat} (hn : n ≤ 160) :
    Memory.wf Config.unwritten Config.oamSize (State.ppuTicks n s).ppu.oam = true ∧
      ∀ k < n, memGet (State.ppuTicks n s).ppu.oam k = s.busRead true (source + BitVec.ofNat 16 k) := by
  induction n with
  | zero => exact ⟨hwf, fun k hk => absurd hk (Nat.not_lt_zero k)⟩
  | succ n ih =>
    obtain ⟨hwf', hbytes⟩ := ih (by omega)
    obtain ⟨hactive, hsource, hindex⟩ : _ ∧ _ ∧ _ := by
      simpa only [Ppu.dma, Prod.mk.injEq] using State.dma_ppuTicks h (n := n) (by omega)
    rw [decide_eq_true (by omega)] at hactive
    rw [State.ppuTicks_succ, State.oam_ppuTick_of_active hactive, hsource, hindex, hread n n hn]
    refine ⟨Memory.wf_memSet hwf' hn _, fun k hk => ?_⟩
    obtain hlt | rfl := Nat.lt_succ_iff_lt_or_eq.1 hk
    · rw [memGet_memSet_other _ _ (Nat.ne_of_lt hlt)]
      exact hbytes k hlt
    · exact memGet_memSet_same hwf' _ _

/-- Settles O48: the start, the engine's registers T-cycle by T-cycle, and OAM byte by byte. -/
theorem dmaTransfer : Obligations.DmaTransfer := by
  unfold Obligations.DmaTransfer
  refine ⟨fun s v hdma => ?_, fun s hactive hindex => ?_, fun s page hmem hactive hindex hpage hsource hvram k hk => ?_⟩
  · rw [State.write_dma hdma, Ppu.startDma, wordOf_page]
  · have hstart : s.ppu.dma = (true, s.ppu.dmaSource, 0) := by rw [Ppu.dma, hactive, hindex]
    refine ⟨fun n hn => ?_, fun n hn => ?_⟩
    · obtain ⟨hrun, -, hat⟩ : _ ∧ _ ∧ _ := by
        simpa only [Ppu.dma, Prod.mk.injEq] using State.dma_ppuTicks hstart (Nat.le_of_lt hn)
      exact ⟨hrun.trans (decide_eq_true (Nat.ne_of_lt hn)), hat⟩
    · obtain ⟨m, rfl⟩ := Nat.exists_eq_add_of_le hn
      rw [State.ppuTicks_add]
      exact State.dmaActive_ppuTicks (congrArg Prod.fst (State.dma_ppuTicks hstart (Nat.le_refl 160))) m
  · have hstart : s.ppu.dma = (true, BitVec.ofNat 16 (256 * page), 0) := by rw [Ppu.dma, hactive, hindex, hsource]
    obtain ⟨-, -, -, -, -, hwf, -⟩ := hmem
    have haddress : ∀ j < 160, (BitVec.ofNat 16 (256 * page) + BitVec.ofNat 16 j).toNat = 256 * page + j := fun j hj => by
      rw [BitVec.toNat_add, BitVec.toNat_ofNat, BitVec.toNat_ofNat]
      omega
    have hread := fun n j (hj : j < 160) => State.busRead_ppuTicks n s
      (a := BitVec.ofNat 16 (256 * page) + BitVec.ofNat 16 j) (by rw [haddress j hj]; omega) (by rw [haddress j hj]; omega)
    obtain ⟨-, hbytes⟩ := State.oam_ppuTicks hstart hwf hread (Nat.le_refl 160)
    rw [hbytes k hk, BitVec.ofNat_add]

end Sys2Proof.Machine
end
